-- ==== Sys2Proof/Word.lean ====
section
/-! DEFINITION. The word and byte types (00_scope.md R8: all words are 32-bit unsigned values,
`+` wraps modulo 2^32). -/

namespace Sys2Proof

/-- A 32-bit word (00_scope.md R6, R8). -/
abbrev Word := BitVec 32

/-- One byte of a byte string (00_scope.md R9). -/
abbrev Byte := BitVec 8

end Sys2Proof
end

