-- ==== Sys2Proof/Config.lean ====
section
/-! DEFINITION. What the spec leaves open (00_scope.md R7, 93_implementation_defined.md): constants
with no body, so a claim holds whatever they are. -/

namespace Sys2Proof

/-- `DIGEST`: byte string to 64 bytes, the function the digest-port agent computes, one function for
a whole run (00_scope.md R7, I1, I14). Assumption log 5. -/
opaque Config.digest : List Byte → Vector Byte 64

/-- `STATE_READBACK`: whether the PASS, SALT, CDATA, P and S windows return their contents on read
(00_scope.md R7, D17). Assumption log 6. -/
opaque Config.stateReadback : Bool

/-- `BASE`: the platform address of the register block (00_scope.md R7, D27). Assumption log 7. -/
opaque Config.base : Nat

/-- The `n`-th byte drawn from the host's secure random source, a draw with no law
(47_host_kdf_procedure.md R233, I2). Assumption log 22. -/
opaque Config.randomByte : Nat → Byte

end Sys2Proof
end

