-- ==== Sys2Proof/Machine/State.lean ====
section
/-! DEFINITION. The state of the BPK core (10_state.md), of the host agent that drives it
(47_host_kdf_procedure.md) and of the order in which the agents still move (20_memory.md R85). All of
it is plain data. -/

namespace Sys2Proof.Machine

/-- Why a step stops with a fault. The core itself has no trap (60_exceptions.md R265). -/
inductive Fault where
  /-- Raised by `step` alone, when it is the core's turn in phase RUN and `cur` decodes to no command.
  R260 accepts only words that decode, so no run reaches it. Safe: the machine stops where the
  spec gives no behaviour (assumption log 9). -/
  | undecodableCommand
  deriving DecidableEq, Repr

/-- Why a command has no meaning. -/
inductive Refusal where
  /-- Raised by an arm of `exec` that has no meaning yet. Safe. No arm raises it in this model. -/
  | notModelled (mnemonic : String)
  deriving DecidableEq, Repr

/-- CipherState: the permutation array P and the four S-boxes (10_state.md R21, R22). -/
structure CipherState where
  p : Vector Word 18
  s : Vector (Vector Word 256) 4
  deriving DecidableEq, Repr

/-- P and S all zero: the reset value (10_state.md R40) and the wiped value
(42_cmd_hash_kdf.md R201, R209). -/
def CipherState.zero : CipherState :=
  { p := Vector.replicate 18 0, s := Vector.replicate 4 (Vector.replicate 256 0) }

/-- `zeros(n)` (00_scope.md R9). -/
def zeros (n : Nat) : Vector Byte n := Vector.replicate n 0

/-- CDATA all zero (10_state.md R40, 42_cmd_hash_kdf.md R201). -/
def zeroWords : Vector Word 8 := Vector.replicate 8 0

/-- The sequencer's phase (10_state.md R35). -/
inductive Phase where
  | idle
  | run
  | wait
  deriving DecidableEq, Repr

/-- `ret`: where the running command resumes (10_state.md R35, 42_cmd_hash_kdf.md R210). -/
inductive Resume where
  /-- the top of the body -/
  | top
  /-- the point after the body's `DigestRequest` -/
  | afterDigest
  deriving DecidableEq, Repr

/-- The error codes the core writes (60_exceptions.md R261); codes 5 to F it never writes
(assumption log 14). -/
inductive ErrCode where
  | none
  | illegalOp
  | badField
  | busy
  | badRounds
  deriving DecidableEq, Repr

/-- One action of the host agent. `wr` to `waitIrq` are the accesses any host program is made of
(30_encoding.md R123, 20_memory.md R88), `call` starts `deriveKey` and the rest are the steps of that
procedure (47_host_kdf_procedure.md R242). -/
inductive HostAct where
  /-- `MMIO_Write(off, w)` -/
  | wr (off : BitVec 13) (w : Word)
  /-- `MMIO_Read(off)` -/
  | rd (off : BitVec 13)
  /-- `WAIT`: read STATUS until BUSY is 0 -/
  | waitIdle
  /-- hold until `irq` = 1 -/
  | waitIrq
  /-- `deriveKey(password, salt, keyLength, rounds)` into the buffer `key`; `canAlloc` says whether
  the host can allocate its working buffer (R232 (7)) -/
  | call (password salt key : List Byte) (keyLength : Nat) (rounds : Word) (canAlloc : Bool)
  /-- build `salt ‖ BE32(count)`, hash it and start a key block (R237, R238) -/
  | startBlock
  /-- read STATUS and fail the call if ERR = 1 (R234) -/
  | checkErr
  /-- read OUT word `k` into the running output block (R238) -/
  | readOut (k : Nat)
  /-- place the block's bytes in `key` (R239) -/
  | assembleBlock
  /-- wipe the host's buffers and report (R241, R234) -/
  | report (success : Bool)
  deriving DecidableEq, Repr

/-- What a `deriveKey` call has reported (47_host_kdf_procedure.md R230, R233). -/
inductive CallResult where
  | pending
  | success
  | failure
  deriving DecidableEq, Repr

/-- The host's variables in `deriveKey` (47_host_kdf_procedure.md R230 to R242). -/
structure HostCall where
  salt       : List Byte
  keyLength  : Nat
  rounds     : Word
  stride     : Nat
  amt        : Nat
  remaining  : Nat
  count      : Nat
  key        : List Byte
  countSalt  : List Byte
  passDigest : List Byte
  out        : List Byte
  result     : CallResult
  deriving DecidableEq, Repr

/-- No call made yet (assumption log 19). -/
def HostCall.empty : HostCall :=
  { salt := [], keyLength := 0, rounds := 0, stride := 0, amt := 0, remaining := 0, count := 0
    key := [], countSalt := [], passDigest := [], out := [], result := .pending }

/-- The host agent (00_scope.md R12): the actions it will still take, in its order
(20_memory.md R84), those of a running `deriveKey` (`todo`) before those of the program that called
it (`prog`); the words its reads returned, newest first; and how many random bytes it has drawn. -/
structure HostAgent where
  prog  : List HostAct
  todo  : List HostAct
  rx    : List Word
  draws : Nat
  call  : HostCall
  deriving DecidableEq, Repr

/-- A host with nothing to do (assumption log 19). -/
def HostAgent.idle : HostAgent :=
  { prog := [], todo := [], rx := [], draws := 0, call := .empty }

/-- Which agent moves (00_scope.md R12, 20_memory.md R85, 70_reset_and_hazards.md R300). -/
inductive Turn where
  | host
  | core
  | digest
  /-- `rst` is sampled as 1 -/
  | reset
  /-- `rst` is sampled as 1 and the host attempts its next transaction meanwhile -/
  | resetHost
  deriving DecidableEq, Repr

/-- The order of the turns once `sched` is used up: the spec leaves it open (20_memory.md R85, R98;
assumption log 2, 30). -/
inductive RestOrder where
  /-- every agent whose step is enabled comes to move -/
  | fair
  /-- the digest agent never answers (R98) -/
  | silentDigest
  deriving DecidableEq, Repr

/-- The whole state: the core's registers and hidden state (10_state.md R21 to R35), the host agent
and the order of the steps still to come. BUSY and DWAIT are read off `phase` (R35, assumption
log 15). -/
structure State where
  cipher   : CipherState
  cdata    : Vector Word 8
  pass     : Vector Byte 64
  salt     : Vector Byte 64
  tmpout   : Vector Byte 32
  out      : Vector Byte 32
  rounds   : Word
  roundcnt : Word
  done     : Bool
  err      : Bool
  errcode  : ErrCode
  doneie   : Bool
  errie    : Bool
  phase    : Phase
  cur      : Word
  rlat     : Word
  dreq     : Option (Vector Byte 32)
  ret      : Resume
  host     : HostAgent
  sched    : List Turn
  order    : RestOrder
  deriving DecidableEq, Repr

/-- The machine right after reset (10_state.md R40). `ret` is not in R40 (assumption log 13); the
host agent has nothing to do (assumption log 19), no turn is scheduled and the agents then move in the
fair order (assumption log 2, 30). -/
def State.reset : State :=
  { cipher := .zero, cdata := zeroWords, pass := zeros 64, salt := zeros 64, tmpout := zeros 32
    out := zeros 32, rounds := 0, roundcnt := 0, done := false, err := false, errcode := .none
    doneie := false, errie := false, phase := .idle, cur := 0, rlat := 0, dreq := none, ret := .top
    host := .idle, sched := [], order := .fair }

end Sys2Proof.Machine
end

