-- ==== Sys2Proof/Machine/Cipher.lean ====
section
/-! DEFINITION. The pure functions of 40_blockmixer_primitives.md, all total (R140). -/

namespace Sys2Proof.Machine

/-- `F(x)` (R141): add, xor, add, each S-box indexed by one byte of `x`, S[0] by the most
significant. -/
def roundF (c : CipherState) (x : Word) : Word :=
  ((c.s[0][(x.extractLsb' 24 8).toNat] + c.s[1][(x.extractLsb' 16 8).toNat])
    ^^^ c.s[2][(x.extractLsb' 8 8).toNat]) + c.s[3][(x.extractLsb' 0 8).toNat]

/-- Round `i` of `Encipher`, 1 ≤ i ≤ 16 (R142): an odd round changes the right half, an even one the
left. -/
def feistelRound (c : CipherState) (i : Nat) (h : i < 18) (lr : Word × Word) : Word × Word :=
  if i % 2 = 1 then (lr.1, lr.2 ^^^ roundF c lr.1 ^^^ c.p[i])
  else (lr.1 ^^^ roundF c lr.2 ^^^ c.p[i], lr.2)

/-- `Encipher(L, R)` (R142): whitening with P[0], 16 rounds, whitening with P[17], halves swapped. -/
def encipher (c : CipherState) (l r : Word) : Word × Word :=
  let lr := Nat.fold 16 (fun k h lr => feistelRound c (k + 1) (by omega) lr) (l ^^^ c.p[0], r)
  (lr.2 ^^^ c.p[17], lr.1)

/-- One byte of `StreamWord` (R144): wrap, shift the byte in, advance. An empty buffer would read as
zero bytes; the core streams only 64 and 32 byte buffers (R145, assumption log 17). -/
def streamByte {n : Nat} (buf : Vector Byte n) (vj : Word × Nat) : Word × Nat :=
  let j := if n ≤ vj.2 then 0 else vj.2
  ((vj.1 <<< 8) ||| (buf[j]?.getD 0).setWidth 32, j + 1)

/-- `StreamWord(buf, n, j)` (R144): the next four bytes as a big-endian word, and the advanced
cursor. -/
def streamWord {n : Nat} (buf : Vector Byte n) (j : Nat) : Word × Nat :=
  streamByte buf (streamByte buf (streamByte buf (streamByte buf (0, j))))

/-- The key phase of the key schedule (R146, R147): P[i] is xored with the key stream,
i = 0 to 17. -/
def xorKey (p : Vector Word 18) (key : Vector Byte 64) : Vector Word 18 :=
  (Nat.fold 18 (fun i h (pj : Vector Word 18 × Nat) =>
    let tj := streamWord key pj.2
    (pj.1.set i (pj.1[i] ^^^ tj.1), tj.2)) (p, 0)).1

/-- The running values of the data phase (R146): the tables, the block L, R and the data cursor. -/
structure Fill where
  c : CipherState
  l : Word
  r : Word
  j : Nat
  deriving DecidableEq, Repr

/-- The data words of `Expand` (R146): L and R are xored with the next two data words. -/
def mixData (data : Vector Byte 64) (st : Fill) : Fill :=
  let t := streamWord data st.j
  let u := streamWord data t.2
  { st with l := st.l ^^^ t.1, r := st.r ^^^ u.1, j := u.2 }

/-- `Expand0` xors no data word (R147). -/
def mixNone (st : Fill) : Fill := st

/-- Encipher the running block under the tables as they stand (R146, R147). -/
def encipherBlock (st : Fill) : Fill :=
  let lr := encipher st.c st.l st.r
  { st with l := lr.1, r := lr.2 }

/-- `P[i] <- L; P[i+1] <- R` (R146). -/
def storeP (i : Nat) (h : i + 1 < 18) (st : Fill) : Fill :=
  { st with c := { st.c with p := (st.c.p.set i st.l).set (i + 1) st.r } }

/-- `S[t][k] <- L; S[t][k+1] <- R` (R146). -/
def storeS (t : Nat) (ht : t < 4) (k : Nat) (h : k + 1 < 256) (st : Fill) : Fill :=
  { st with c := { st.c with s := st.c.s.set t ((st.c.s[t].set k st.l).set (k + 1) st.r) } }

/-- P is overwritten in pairs, i = 0, 2, ..., 16 (R146). -/
def fillP (mix : Fill → Fill) (st : Fill) : Fill :=
  Nat.fold 9 (fun i h st => storeP (2 * i) (by omega) (encipherBlock (mix st))) st

/-- S[t] is overwritten in pairs, k = 0, 2, ..., 254 (R146). -/
def fillBox (mix : Fill → Fill) (t : Nat) (ht : t < 4) (st : Fill) : Fill :=
  Nat.fold 128 (fun k h st => storeS t ht (2 * k) (by omega) (encipherBlock (mix st))) st

/-- The four S-boxes are overwritten in order (R146). -/
def fillS (mix : Fill → Fill) (st : Fill) : Fill :=
  Nat.fold 4 (fun t h st => fillBox mix t h st) st

/-- The key schedule: the key phase, then P and S overwritten with the data cursor and the block
carried from one to the other (R146, R147). -/
def keySchedule (mix : Fill → Fill) (c : CipherState) (key : Vector Byte 64) : CipherState :=
  (fillS mix (fillP mix { c := { c with p := xorKey c.p key }, l := 0, r := 0, j := 0 })).c

/-- `Expand(data, key)` (R146). -/
def expand (c : CipherState) (data key : Vector Byte 64) : CipherState :=
  keySchedule (mixData data) c key

/-- `Expand0(key)` (R147). -/
def expand0 (c : CipherState) (key : Vector Byte 64) : CipherState :=
  keySchedule mixNone c key

/-- Block pair `b` of CDATA enciphered in place (R149). -/
def encryptPair (c : CipherState) (b : Nat) (h : b < 4) (d : Vector Word 8) : Vector Word 8 :=
  let lr := encipher c d[2 * b] d[2 * b + 1]
  (d.set (2 * b) lr.1).set (2 * b + 1) lr.2

/-- `EncryptBlocks(m)` (R149), for `m` in 1..4; CDATA has 4 pairs, so a larger `m`, which no command
word gives (R115), means all 4 (assumption log 16). -/
def encryptBlocks (c : CipherState) (m : Nat) (d : Vector Word 8) : Vector Word 8 :=
  Nat.fold (min m 4) (fun b h d => encryptPair c b (by omega) d) d

/-- `n` passes of `EncryptBlocks(m)` (41_cmd_cipher.md R175). -/
def encryptPasses (c : CipherState) (n m : Nat) (d : Vector Word 8) : Vector Word 8 :=
  (encryptBlocks c m)^[n] d

/-- `Serialize()` (R150): TMPOUT[4k + b] is byte `b` of CDATA[k], the least significant first. -/
def serialize (d : Vector Word 8) : Vector Byte 32 :=
  Vector.ofFn fun (i : Fin 32) => d[i.val / 4].extractLsb' (8 * (i.val % 4)) 8

/-- `LoadMagic()` (R151): the 8 big-endian words of MAGIC into CDATA. -/
def loadMagic (d : Vector Word 8) : Vector Word 8 :=
  (Nat.fold 8 (fun k h (dj : Vector Word 8 × Nat) =>
    let tj := streamWord magic dj.2
    (dj.1.set k tj.1, tj.2)) (d, 0)).1

/-- The tables INIT loads (41_cmd_cipher.md R171). -/
def initTables : CipherState := { p := pInit, s := sInit }

/-- The key schedule of ExpensiveHash, steps 1 to 3 (42_cmd_hash_kdf.md R201): INIT, Expand(SALT,
PASS), then 64 times Expand0(SALT) and Expand0(PASS). -/
def hashSchedule (pass salt : Vector Byte 64) : CipherState :=
  (fun c => expand0 (expand0 c salt) pass)^[64] (expand initTables salt pass)

end Sys2Proof.Machine
end

