-- ==== Sys2Proof/Syntax.lean ====
section
/-! DEFINITION. The commands of BPK-CMD version 1, one constructor per row of the opcode table
(30_encoding.md R118). -/

namespace Sys2Proof

/-- A buffer selector of EXPAND and EXPAND0 (30_encoding.md R113). -/
inductive Sel where
  | pass
  | salt
  deriving DecidableEq, Repr

/-- The 13 commands (30_encoding.md R118). -/
inductive Instr where
  | nop
  | init
  /-- `EXPAND data, key` -/
  | expand (data key : Sel)
  /-- `EXPAND0 key` -/
  | expand0 (key : Sel)
  | loadmagic
  /-- `ENCRYPT n, m`: `n` passes over the first `m` block pairs (R114, R115). -/
  | encrypt (n m : Nat)
  | serialize
  | bhash
  | accload
  | accxor
  | rehash
  | kdfblk
  | wipe
  deriving DecidableEq, Repr

end Sys2Proof
end

