-- ==== Sys2Proof/WellFormed.lean ====
section
/-! DEFINITION. Which commands an encoding admits (30_encoding.md R113 to R115). -/

namespace Sys2Proof

/-- The operand ranges: ENCRYPT takes 1 to 255 passes and 1 to 4 block pairs (R114, R115). A selector
is PASS or SALT by its type (R113). -/
def Instr.wf : Instr → Bool
  | .nop => true
  | .init => true
  | .expand _ _ => true
  | .expand0 _ => true
  | .loadmagic => true
  | .encrypt n m => decide (1 ≤ n) && decide (n ≤ 255) && decide (1 ≤ m) && decide (m ≤ 4)
  | .serialize => true
  | .bhash => true
  | .accload => true
  | .accxor => true
  | .rehash => true
  | .kdfblk => true
  | .wipe => true

/-- A well-formed command. -/
abbrev Instr.WellFormed (i : Instr) : Prop := i.wf = true

end Sys2Proof
end

