-- ==== Sys2Proof/Decode.lean ====
section
/-! DEFINITION. The decoder of 30_encoding.md R119, total on every 32-bit word, and the encoder
written from the field layout of R111 and the opcode map of R118. -/

namespace Sys2Proof

/-- Why a word is no command (30_encoding.md R119, R120). -/
inductive DecodeError where
  /-- OP in 0x0D..0xFF -/
  | illegalOp
  /-- a defined OP with a field that breaks R113 to R116 -/
  | badField
  deriving DecidableEq, Repr

/-- OP, bits 7:0 (R111). -/
def opField (w : Word) : BitVec 8 := w.extractLsb' 0 8
/-- A, bits 11:8 (R111). -/
def aField (w : Word) : BitVec 4 := w.extractLsb' 8 4
/-- B, bits 15:12 (R111). -/
def bField (w : Word) : BitVec 4 := w.extractLsb' 12 4
/-- N, bits 23:16 (R111). -/
def nField (w : Word) : BitVec 8 := w.extractLsb' 16 8
/-- M, bits 26:24 (R111). -/
def mField (w : Word) : BitVec 3 := w.extractLsb' 24 3
/-- RES, bits 31:27 (R111). -/
def resField (w : Word) : BitVec 5 := w.extractLsb' 27 5

/-- `sel` of R119: code 0 is PASS, code 1 is SALT, the others are reserved (R113). -/
def selOfCode (c : BitVec 4) : Option Sel :=
  if c = 0 then some .pass else if c = 1 then some .salt else none

/-- The command of an opcode that takes no operands (R118). -/
def plainOfOp (op : BitVec 8) : Option Instr :=
  if op = 0x00 then some .nop
  else if op = 0x01 then some .init
  else if op = 0x04 then some .loadmagic
  else if op = 0x06 then some .serialize
  else if op = 0x07 then some .bhash
  else if op = 0x08 then some .accload
  else if op = 0x09 then some .accxor
  else if op = 0x0A then some .rehash
  else if op = 0x0B then some .kdfblk
  else if op = 0x0C then some .wipe
  else none

/-- EXPAND (R119): bits 26:16 zero and both selectors defined. -/
def decodeExpand (w : Word) : Except DecodeError Instr :=
  match selOfCode (aField w), selOfCode (bField w) with
  | some data, some key =>
      if w.extractLsb' 16 11 = 0 then .ok (.expand data key) else .error .badField
  | _, _ => .error .badField

/-- EXPAND0 (R119): bits 26:12 zero and the selector defined. -/
def decodeExpand0 (w : Word) : Except DecodeError Instr :=
  match selOfCode (aField w) with
  | some key => if w.extractLsb' 12 15 = 0 then .ok (.expand0 key) else .error .badField
  | none => .error .badField

/-- ENCRYPT (R119): bits 15:8 zero, N not 0 and M in 1..4. -/
def decodeEncrypt (w : Word) : Except DecodeError Instr :=
  if w.extractLsb' 8 8 = 0 ∧ nField w ≠ 0 ∧ mField w ≠ 0 ∧ mField w ≤ 4 then
    .ok (.encrypt (nField w).toNat (mField w).toNat)
  else .error .badField

/-- A command without operands (R119): bits 26:8 zero. -/
def decodePlain (w : Word) : Except DecodeError Instr :=
  match plainOfOp (opField w) with
  | some i => if w.extractLsb' 8 19 = 0 then .ok i else .error .badField
  | none => .error .illegalOp

/-- `decode(w)` of R119: every word gives one command or one error. -/
def decode (w : Word) : Except DecodeError Instr :=
  if 0x0C < opField w then .error .illegalOp
  else if resField w ≠ 0 then .error .badField
  else if opField w = 0x02 then decodeExpand w
  else if opField w = 0x03 then decodeExpand0 w
  else if opField w = 0x05 then decodeEncrypt w
  else decodePlain w

/-- The selector code of a buffer (R113). -/
def Sel.code : Sel → BitVec 4
  | .pass => 0
  | .salt => 1

/-- The word of R111: RES = 0, M, N, B, A, OP from the most significant bits down. -/
def packFields (m : BitVec 3) (n : BitVec 8) (b a : BitVec 4) (op : BitVec 8) : Word :=
  0#5 ++ m ++ n ++ b ++ a ++ op

/-- The command word of a command (R111, R118); for a well-formed command it is the word that
decodes to it. -/
def encode : Instr → Word
  | .nop => packFields 0 0 0 0 0x00
  | .init => packFields 0 0 0 0 0x01
  | .expand data key => packFields 0 0 key.code data.code 0x02
  | .expand0 key => packFields 0 0 0 key.code 0x03
  | .loadmagic => packFields 0 0 0 0 0x04
  | .encrypt n m => packFields (BitVec.ofNat 3 m) (BitVec.ofNat 8 n) 0 0 0x05
  | .serialize => packFields 0 0 0 0 0x06
  | .bhash => packFields 0 0 0 0 0x07
  | .accload => packFields 0 0 0 0 0x08
  | .accxor => packFields 0 0 0 0 0x09
  | .rehash => packFields 0 0 0 0 0x0A
  | .kdfblk => packFields 0 0 0 0 0x0B
  | .wipe => packFields 0 0 0 0 0x0C

/-- The bits `w`, of which the table gives `nbits`, as one command word, the bits above `nbits`
zero. -/
def tableWord (nbits w : Nat) : Word := BitVec.ofNat 32 (w % 2 ^ nbits)

/-- What the decoder reads from an opcode-table word (R119); a command word has 32 bits (R110). -/
def decodeTableWord (nbits w : Nat) : Option Instr :=
  if nbits ≤ 32 then
    match decode (tableWord nbits w) with
    | .ok i => some i
    | .error _ => none
  else none

end Sys2Proof
end

