-- ==== Sys2Proof/Machine/Flags.lean ====
section
/-! DEFINITION. STATUS, INTEN and irq: the condition bits of the core (10_state.md R31, R32, R34,
R39). -/

namespace Sys2Proof.Machine

/-- The number of an error code (60_exceptions.md R261). -/
def ErrCode.code : ErrCode → BitVec 4
  | .none => 0
  | .illegalOp => 1
  | .badField => 2
  | .busy => 3
  | .badRounds => 4

/-- STATUS.BUSY = (phase != IDLE) (10_state.md R35). -/
def State.busy (s : State) : Bool :=
  match s.phase with
  | .idle => false
  | .run => true
  | .wait => true

/-- STATUS.DWAIT = (phase = WAIT) (10_state.md R35). -/
def State.dwait (s : State) : Bool :=
  match s.phase with
  | .idle => false
  | .run => false
  | .wait => true

/-- The STATUS register (10_state.md R31): ERRCODE in bits 11:8, DWAIT, ERR, DONE and BUSY in bits 3
to 0, the reserved bits zero. -/
def State.statusWord (s : State) : Word :=
  0#20 ++ s.errcode.code ++ 0#4 ++ BitVec.ofBool s.dwait ++ BitVec.ofBool s.err
    ++ BitVec.ofBool s.done ++ BitVec.ofBool s.busy

/-- The INTEN register (10_state.md R32): ERRIE in bit 1, DONEIE in bit 0, the reserved bits zero. -/
def State.intenWord (s : State) : Word :=
  0#30 ++ BitVec.ofBool s.errie ++ BitVec.ofBool s.doneie

/-- The interrupt output (10_state.md R34). -/
def State.irq (s : State) : Bool := (s.done && s.doneie) || (s.err && s.errie)

/-- A bus write to STATUS (10_state.md R31): writing 1 clears DONE (bit 1) or ERR (bit 2), and
clearing ERR also clears ERRCODE. -/
def writeStatus (w : Word) (s : State) : State :=
  { s with
    done := s.done && !w.getLsbD 1
    err := s.err && !w.getLsbD 2
    errcode := if w.getLsbD 2 then .none else s.errcode }

/-- A bus write to INTEN (10_state.md R32): the reserved bits are ignored. -/
def writeInten (w : Word) (s : State) : State :=
  { s with doneie := w.getLsbD 0, errie := w.getLsbD 1 }

end Sys2Proof.Machine
end

