-- ==== Sys2Proof/Machine/Operands.lean ====
section
/-! DEFINITION. The operand forms: buffer selectors (30_encoding.md R113), the register map
(20_memory.md R72), the byte lanes of the bus (R73, R74) and byte strings (00_scope.md R9). -/

namespace Sys2Proof.Machine

/-- `buf(sel)` of 41_cmd_cipher.md R172: 0 is PASS, 1 is SALT. -/
def State.buf (s : State) : Sel → Vector Byte 64
  | .pass => s.pass
  | .salt => s.salt

/-- What an offset of the register block selects (20_memory.md R72). -/
inductive Reg where
  | id
  | status
  | cmd
  | rounds
  | roundcnt
  | inten
  | pass (k : Fin 16)
  | salt (k : Fin 16)
  | tmpout (k : Fin 8)
  | out (k : Fin 8)
  | cdata (k : Fin 8)
  | p (i : Fin 18)
  | s (t : Fin 4) (k : Fin 256)
  | reserved
  deriving DecidableEq, Repr

/-- The word offset `off & ~3` as a number of bytes: bits [1:0] are ignored (20_memory.md R70,
R80). -/
def wordOffset (off : BitVec 13) : Nat := 4 * (off.extractLsb' 2 11).toNat

/-- The register map (20_memory.md R72). -/
def regOf (off : BitVec 13) : Reg :=
  let a := wordOffset off
  if a = 0x0000 then .id
  else if a = 0x0004 then .status
  else if a = 0x0008 then .cmd
  else if a = 0x000C then .rounds
  else if a = 0x0010 then .roundcnt
  else if a = 0x0014 then .inten
  else if _ : 0x0100 ≤ a ∧ a < 0x0140 then .pass ⟨(a - 0x0100) / 4, by omega⟩
  else if _ : 0x0140 ≤ a ∧ a < 0x0180 then .salt ⟨(a - 0x0140) / 4, by omega⟩
  else if _ : 0x0180 ≤ a ∧ a < 0x01A0 then .tmpout ⟨(a - 0x0180) / 4, by omega⟩
  else if _ : 0x01A0 ≤ a ∧ a < 0x01C0 then .out ⟨(a - 0x01A0) / 4, by omega⟩
  else if _ : 0x01C0 ≤ a ∧ a < 0x01E0 then .cdata ⟨(a - 0x01C0) / 4, by omega⟩
  else if _ : 0x0200 ≤ a ∧ a < 0x0248 then .p ⟨(a - 0x0200) / 4, by omega⟩
  else if _ : 0x0400 ≤ a ∧ a < 0x1400 then
    .s ⟨(a - 0x0400) / 0x400, by omega⟩ ⟨(a - 0x0400) % 0x400 / 4, by omega⟩
  else .reserved

/-- The ID register (10_state.md R30). -/
def idWord : Word := 0x42504B01

/-- Four bytes as a bus word, the first in bits 7:0 (20_memory.md R73). -/
def wordOfBytes (b0 b1 b2 b3 : Byte) : Word := b3 ++ b2 ++ b1 ++ b0

/-- Bus word `k` of a byte buffer (20_memory.md R73). -/
def getLane {n : Nat} (buf : Vector Byte n) (k : Nat) (h : 4 * k + 3 < n) : Word :=
  wordOfBytes buf[4 * k] buf[4 * k + 1] buf[4 * k + 2] buf[4 * k + 3]

/-- A bus write of word `k` of a byte buffer (20_memory.md R73). -/
def setLane {n : Nat} (buf : Vector Byte n) (k : Nat) (w : Word) (h : 4 * k + 3 < n) :
    Vector Byte n :=
  (((buf.set (4 * k) (w.extractLsb' 0 8)).set (4 * k + 1) (w.extractLsb' 8 8)).set
    (4 * k + 2) (w.extractLsb' 16 8)).set (4 * k + 3) (w.extractLsb' 24 8)

/-- `BE32(n)` (00_scope.md R9). -/
def be32 (n : Word) : List Byte :=
  [n.extractLsb' 24 8, n.extractLsb' 16 8, n.extractLsb' 8 8, n.extractLsb' 0 8]

/-- The four bytes of a bus word, bits 7:0 first: what a little-endian host stores (20_memory.md
R73). -/
def laneBytes (w : Word) : List Byte :=
  [w.extractLsb' 0 8, w.extractLsb' 8 8, w.extractLsb' 16 8, w.extractLsb' 24 8]

/-- The platform address of an offset of the register block (20_memory.md R70, assumption log 7). -/
def busAddress (off : BitVec 13) : Nat := Config.base + off.toNat

/-- The offset a platform address selects; an address outside the 8 KiB block is not the core's
(20_memory.md R70, R82, assumption log 7). -/
def offsetOfAddress (addr : Nat) : Option (BitVec 13) :=
  if Config.base ≤ addr ∧ addr < Config.base + 0x2000 then
    some (BitVec.ofNat 13 (addr - Config.base))
  else none

end Sys2Proof.Machine
end

