-- ==== Sys2Proof/Machine/Ops.lean ====
section
/-! DEFINITION. The shared operations: raising an error and acknowledging it (60_exceptions.md R262,
R266), the life cycle of a command (R260, R268), the digest port (20_memory.md R95 to R97), bus reads
and writes (R76, R77) and reset (70_reset_and_hazards.md R300). -/

namespace Sys2Proof.Machine

/-- `raise Error(code)` (60_exceptions.md R262): the one way the core reports an error. It saves no
state and transfers no control (R265). The first error since ERR was last 0 keeps its code. -/
def raiseError (code : ErrCode) (s : State) : State :=
  { s with err := true, errcode := if s.err then s.errcode else code }

/-- The host's acknowledgement of an error and a completion in one write, `CLRST`
(60_exceptions.md R266, 30_encoding.md R123). -/
def clearStatus (s : State) : State := writeStatus 0x00000006 s

/-- The error a word that is no command raises (60_exceptions.md R261). -/
def errCodeOf : DecodeError → ErrCode
  | .illegalOp => .illegalOp
  | .badField => .badField

/-- Acceptance of command `i` with word `w` (60_exceptions.md R260). The body starts at its top
(42_cmd_hash_kdf.md R210 (a), assumption log 10). -/
def accept (i : Instr) (w : Word) (s : State) : State :=
  let s := { s with cur := w, done := false, phase := .run, ret := .top }
  if i = .kdfblk then { s with rlat := s.rounds, roundcnt := 0 } else s

/-- `submit(w)` (60_exceptions.md R260), with the priority of R263. -/
def submit (w : Word) (s : State) : State :=
  if s.busy then raiseError .busy s
  else match decode w with
    | .error e => raiseError (errCodeOf e) s
    | .ok i => if i = .kdfblk ∧ s.rounds = 0 then raiseError .badRounds s else accept i w s

/-- `complete` (60_exceptions.md R268). -/
def complete (s : State) : State := { s with phase := .idle, done := true }

/-- The end of a core step that reaches `DigestRequest(TMPOUT)` (42_cmd_hash_kdf.md R210 (b),
20_memory.md R96). -/
def requestDigest (s : State) : State :=
  { s with dreq := some s.tmpout, ret := .afterDigest, phase := .wait }

/-- The digest agent's step (42_cmd_hash_kdf.md R210 (c)): enabled only while a request is
outstanding; at any other time a response is not accepted and changes nothing (20_memory.md R97). -/
def digestStep (s : State) : State :=
  match s.phase, s.dreq with
  | .wait, some m => { s with salt := Config.digest m.toList, dreq := none, phase := .run }
  | _, _ => s

/-- The word the sequencer runs, decoded (10_state.md R35). -/
def fetchInstr (s : State) : Except DecodeError Instr := decode s.cur

/-- A read of a data window (20_memory.md R77): zero while BUSY = 1. -/
def readIdle (w : Word) (s : State) : Word := if s.busy then 0 else w

/-- A read of a PASS, SALT, CDATA, P or S window (20_memory.md R77): zero also when
STATE_READBACK = 0. -/
def readBack (w : Word) (s : State) : Word := if s.busy || !Config.stateReadback then 0 else w

/-- The value a read of a register returns (20_memory.md R75, R77). -/
def readReg (s : State) : Reg → Word
  | .id => idWord
  | .status => s.statusWord
  | .cmd => 0
  | .rounds => s.rounds
  | .roundcnt => s.roundcnt
  | .inten => s.intenWord
  | .pass k => readBack (getLane s.pass k.val (by omega)) s
  | .salt k => readBack (getLane s.salt k.val (by omega)) s
  | .tmpout k => readIdle (getLane s.tmpout k.val (by omega)) s
  | .out k => readIdle (getLane s.out k.val (by omega)) s
  | .cdata k => readBack s.cdata[k] s
  | .p i => readBack s.cipher.p[i] s
  | .s t k => readBack s.cipher.s[t][k] s
  | .reserved => 0

/-- `MMIO_Read(off)` (20_memory.md R70, R77). It changes no state (R78). -/
def busRead (off : BitVec 13) (s : State) : Word := readReg s (regOf off)

/-- A write to a register that a command may be using (20_memory.md R76): while BUSY = 1 it is
ignored and raises BUSY. -/
def writeIdle (written s : State) : State := if s.busy then raiseError .busy s else written

/-- The effect of a write of `w` to a register (20_memory.md R75, R76). -/
def writeReg (w : Word) (s : State) : Reg → State
  | .id => s
  | .status => writeStatus w s
  | .cmd => submit w s
  | .rounds => writeIdle { s with rounds := w } s
  | .roundcnt => s
  | .inten => writeInten w s
  | .pass k => writeIdle { s with pass := setLane s.pass k.val w (by omega) } s
  | .salt k => writeIdle { s with salt := setLane s.salt k.val w (by omega) } s
  | .tmpout _ => s
  | .out _ => s
  | .cdata k => writeIdle { s with cdata := s.cdata.set k w } s
  | .p i => writeIdle { s with cipher := { s.cipher with p := s.cipher.p.set i w } } s
  | .s t k =>
      writeIdle
        { s with cipher := { s.cipher with s := s.cipher.s.set t (s.cipher.s[t].set k w) } } s
  | .reserved => s

/-- `MMIO_Write(off, w)` (20_memory.md R70, R76). -/
def busWrite (off : BitVec 13) (w : Word) (s : State) : State := writeReg w s (regOf off)

/-- Reset (70_reset_and_hazards.md R300): every piece of the core's state takes its value of
10_state.md R40; the host agent and the order of the agents are not the core's. -/
def resetCore (s : State) : State :=
  { State.reset with host := s.host, sched := s.sched, order := s.order }

/-- `ExpensiveHash()` (42_cmd_hash_kdf.md R201), with its wipe of P, S and CDATA. -/
def expensiveHash (s : State) : State :=
  let c := hashSchedule s.pass s.salt
  let d := encryptPasses c 64 4 (loadMagic s.cdata)
  { s with tmpout := serialize d, cipher := .zero, cdata := zeroWords }

/-- `OUT ^ TMPOUT`, byte by byte (42_cmd_hash_kdf.md R204). -/
def xorBytes (a b : Vector Byte 32) : Vector Byte 32 :=
  Vector.ofFn fun i => a[i] ^^^ b[i]

/-- `WIPE` without `complete` (42_cmd_hash_kdf.md R209). -/
def wipeBuffers (s : State) : State :=
  { s with
    cipher := .zero, cdata := zeroWords, pass := zeros 64, salt := zeros 64
    tmpout := zeros 32, out := zeros 32, roundcnt := 0 }

/-- The state right after acceptance of `w`, with the core moving next: what `withFetchWord` needs
for the next step to run `w` (assumption log 3). KDFBLK is accepted only with ROUNDS not 0 (R260), so
a ROUNDS of 0 is set to 1 for it (assumption log 4). -/
def launch (w : Word) (s : State) : State :=
  let kdf : Bool := match decode w with
    | .ok i => decide (i = .kdfblk)
    | .error _ => false
  let r : Word := if kdf && decide (s.rounds = 0) then 1 else s.rounds
  { s with
    rounds := r
    cur := w, done := false, phase := .run, ret := .top, dreq := none
    rlat := if kdf then r else s.rlat
    roundcnt := if kdf then 0 else s.roundcnt
    sched := .core :: s.sched }

end Sys2Proof.Machine
end

