-- ==== Sys2Proof/Machine/CipherCmd.lean ====
section
/-! DEFINITION. The cipher-primitive commands of 41_cmd_cipher.md: what the core step of each does.
Each takes one core step (42_cmd_hash_kdf.md R210). -/

namespace Sys2Proof.Machine

/-- NOP (R170). -/
def execNop (s : State) : Host.Outcome State Fault Refusal := .next (complete s)

/-- INIT (R171). -/
def execInit (s : State) : Host.Outcome State Fault Refusal :=
  .next (complete { s with cipher := initTables })

/-- EXPAND data, key (R172). -/
def execExpand (data key : Sel) (s : State) : Host.Outcome State Fault Refusal :=
  .next (complete { s with cipher := expand s.cipher (s.buf data) (s.buf key) })

/-- EXPAND0 key (R173). -/
def execExpand0 (key : Sel) (s : State) : Host.Outcome State Fault Refusal :=
  .next (complete { s with cipher := expand0 s.cipher (s.buf key) })

/-- LOADMAGIC (R174). -/
def execLoadmagic (s : State) : Host.Outcome State Fault Refusal :=
  .next (complete { s with cdata := loadMagic s.cdata })

/-- ENCRYPT n, m (R175). -/
def execEncrypt (n m : Nat) (s : State) : Host.Outcome State Fault Refusal :=
  .next (complete { s with cdata := encryptPasses s.cipher n m s.cdata })

/-- SERIALIZE (R176). -/
def execSerialize (s : State) : Host.Outcome State Fault Refusal :=
  .next (complete { s with tmpout := serialize s.cdata })

end Sys2Proof.Machine
end

