-- ==== Sys2Proof/Machine/HashKdf.lean ====
section
/-! DEFINITION. The ExpensiveHash and KDF-round commands of 42_cmd_hash_kdf.md. REHASH and KDFBLK use
the digest port, so a core step of theirs runs from `ret` to the next request or to the end
(R210). -/

namespace Sys2Proof.Machine

/-- BHASH (R202). -/
def execBhash (s : State) : Host.Outcome State Fault Refusal := .next (complete (expensiveHash s))

/-- ACCLOAD (R203). -/
def execAccload (s : State) : Host.Outcome State Fault Refusal :=
  .next (complete { s with out := s.tmpout })

/-- ACCXOR (R204). -/
def execAccxor (s : State) : Host.Outcome State Fault Refusal :=
  .next (complete { s with out := xorBytes s.out s.tmpout })

/-- REHASH (R206): the first core step requests the digest of TMPOUT, the second completes; the
digest agent's answer in between replaces SALT. -/
def execRehash (s : State) : Host.Outcome State Fault Refusal :=
  match s.ret with
  | .top => .next (requestDigest s)
  | .afterDigest => .next (complete s)

/-- The first round of KDFBLK (R208): OUT is the first raw output. -/
def kdfFirstRound (s : State) : State :=
  let s := expensiveHash s
  { s with out := s.tmpout, roundcnt := 1 }

/-- A later round of KDFBLK (R208), after the digest of the previous raw output has replaced SALT. -/
def kdfNextRound (s : State) : State :=
  let s := expensiveHash s
  { s with out := xorBytes s.out s.tmpout, roundcnt := s.roundcnt + 1 }

/-- The loop test of KDFBLK (R208): another round begins with a digest request. -/
def kdfLoop (s : State) : State :=
  if s.roundcnt < s.rlat then requestDigest s else complete s

/-- KDFBLK (R208): one round a core step, from the top of the body or after a digest. -/
def execKdfblk (s : State) : Host.Outcome State Fault Refusal :=
  match s.ret with
  | .top => .next (kdfLoop (kdfFirstRound s))
  | .afterDigest => .next (kdfLoop (kdfNextRound s))

/-- WIPE (R209). -/
def execWipe (s : State) : Host.Outcome State Fault Refusal := .next (complete (wipeBuffers s))

end Sys2Proof.Machine
end

