-- ==== Sys2Proof/Machine/Dispatch.lean ====
section
/-! DEFINITION. The meaning of each command: one core-sequencer step of its body
(42_cmd_hash_kdf.md R210, assumption log 3). -/

namespace Sys2Proof.Machine

def exec (i : Instr) (s : State) : Host.Outcome State Fault Refusal :=
  match i with
  | .nop => Sys2Proof.Machine.execNop s
  | .init => Sys2Proof.Machine.execInit s
  | .expand data key => Sys2Proof.Machine.execExpand data key s
  | .expand0 key => Sys2Proof.Machine.execExpand0 key s
  | .loadmagic => Sys2Proof.Machine.execLoadmagic s
  | .encrypt n m => Sys2Proof.Machine.execEncrypt n m s
  | .serialize => Sys2Proof.Machine.execSerialize s
  | .bhash => Sys2Proof.Machine.execBhash s
  | .accload => Sys2Proof.Machine.execAccload s
  | .accxor => Sys2Proof.Machine.execAccxor s
  | .rehash => Sys2Proof.Machine.execRehash s
  | .kdfblk => Sys2Proof.Machine.execKdfblk s
  | .wipe => Sys2Proof.Machine.execWipe s

end Sys2Proof.Machine
end

