-- ==== Sys2Proof/Machine/Pseudo.lean ====
section
/-! DEFINITION. The host pseudo-instructions of 30_encoding.md R123, as the host actions they expand
to. -/

namespace Sys2Proof.Machine

/-- The offset of a register, or of word `k` of a window (20_memory.md R72). -/
def Reg.offset : Reg → Option (BitVec 13)
  | .id => some 0x0000
  | .status => some 0x0004
  | .cmd => some 0x0008
  | .rounds => some 0x000C
  | .roundcnt => some 0x0010
  | .inten => some 0x0014
  | .pass k => some (BitVec.ofNat 13 (0x0100 + 4 * k.val))
  | .salt k => some (BitVec.ofNat 13 (0x0140 + 4 * k.val))
  | .tmpout k => some (BitVec.ofNat 13 (0x0180 + 4 * k.val))
  | .out k => some (BitVec.ofNat 13 (0x01A0 + 4 * k.val))
  | .cdata k => some (BitVec.ofNat 13 (0x01C0 + 4 * k.val))
  | .p i => some (BitVec.ofNat 13 (0x0200 + 4 * i.val))
  | .s t k => some (BitVec.ofNat 13 (0x0400 + 0x400 * t.val + 4 * k.val))
  | .reserved => none

/-- The command line of a command (R122): one CMD write. -/
def cmdLine (i : Instr) : List HostAct := [.wr 0x0008 (encode i)]

/-- `DO <command>`: the command line, then `WAIT` (R123). -/
def doCmd (i : Instr) : List HostAct := cmdLine i ++ [.waitIdle]

/-- `CLRST` (R123). -/
def clrst : List HostAct := [.wr 0x0004 0x00000006]

/-- Bus word `k` of a byte string loaded by `LDBUF` (R123). -/
def bufferWord (bytes : List Byte) (k : Nat) : Word :=
  wordOfBytes (bytes.getD (4 * k) 0) (bytes.getD (4 * k + 1) 0) (bytes.getD (4 * k + 2) 0)
    (bytes.getD (4 * k + 3) 0)

/-- The offset of word 0 of a selectable buffer (20_memory.md R72). -/
def bufferBase : Sel → Nat
  | .pass => 0x0100
  | .salt => 0x0140

/-- `LDBUF PASS, bytes` or `LDBUF SALT, bytes`: 16 writes (R123). -/
def ldbuf (sel : Sel) (bytes : List Byte) : List HostAct :=
  (List.range 16).map fun k =>
    .wr (BitVec.ofNat 13 (bufferBase sel + 4 * k)) (bufferWord bytes k)

/-- `ENC64` (R123). -/
def enc64 : List HostAct := cmdLine (.encrypt 64 4)

/-- `n` copies of a list of host actions, one after another. -/
def repeatActs (n : Nat) (acts : List HostAct) : List HostAct := (List.replicate n acts).flatten

/-- `XHASH` (R123): the steps of ExpensiveHash as commands, without the wipe. -/
def xhash : List HostAct :=
  doCmd .init ++ doCmd (.expand .salt .pass)
    ++ repeatActs 64 (doCmd (.expand0 .salt) ++ doCmd (.expand0 .pass))
    ++ doCmd .loadmagic ++ doCmd (.encrypt 64 4) ++ doCmd .serialize

end Sys2Proof.Machine
end

