-- ==== Sys2Proof/Machine/HostAgent.lean ====
section
/-! DEFINITION. The host agent's step: bus transactions in its own order (20_memory.md R84) and the
reference procedure `deriveKey` (47_host_kdf_procedure.md). It defines no core behaviour. -/

namespace Sys2Proof.Machine

/-- A call that is rejected before any other work (R232): (1) to (6) are InvalidParameters, (7) is
ResourceExhausted; both give the one failure signal (R233). -/
def invalidCall (password salt : List Byte) (keyLength : Nat) (rounds : Word) (canAlloc : Bool) :
    Bool :=
  decide (rounds < 1) || decide (password.length = 0) || decide (salt.length = 0)
    || decide (keyLength = 0) || decide (1024 < keyLength) || decide (2 ^ 20 < salt.length)
    || !canAlloc

/-- `stride = ceil(keyLength / 32)` (R235). -/
def strideOf (keyLength : Nat) : Nat := (keyLength + 31) / 32

/-- `amt = ceil(keyLength / stride)` (R235). -/
def amtOf (keyLength : Nat) : Nat := (keyLength + strideOf keyLength - 1) / strideOf keyLength

/-- The random fill of `key[0..keyLength)` (R233): one draw per byte. -/
def randomFill (key : List Byte) (keyLength draws : Nat) : List Byte :=
  key.mapIdx fun i b => if i < keyLength then Config.randomByte (draws + i) else b

/-- Overwrite with zero (R241). -/
def wipeBytes (b : List Byte) : List Byte := List.replicate b.length 0

/-- The loop of R239: from index `i`, at most `todo` bytes of the block go to
`i * stride + (count - 1)` while that is inside the key. It returns the key and the final `i`. -/
def placeBytes (keyLength stride count : Nat) (out : List Byte) :
    Nat → Nat → List Byte → List Byte × Nat
  | 0, i, key => (key, i)
  | todo + 1, i, key =>
      let dest := i * stride + (count - 1)
      if keyLength ≤ dest then (key, i)
      else placeBytes keyLength stride count out todo (i + 1) (key.set dest (out.getD i 0))

/-- Output assembly of one key block (R239): `amt` is reduced and kept, `remaining` falls by the
number of bytes written (90_conflicts.md C3), `count` advances. -/
def placeBlock (c : HostCall) : HostCall :=
  let amt := min c.amt c.remaining
  let placed := placeBytes c.keyLength c.stride c.count c.out amt 0 c.key
  { c with
    amt := amt, key := placed.1, remaining := c.remaining - placed.2, count := c.count + 1 }

/-- The variables of a call that passed validation (R235, R236). -/
def startCall (password salt key : List Byte) (keyLength : Nat) (rounds : Word) : HostCall :=
  { salt := salt, keyLength := keyLength, rounds := rounds, stride := strideOf keyLength
    amt := amtOf keyLength, remaining := keyLength, count := 1, key := key, countSalt := []
    passDigest := (Config.digest password).toList, out := [], result := .pending }

/-- `salt ‖ BE32(count)` (R237). -/
def countSaltOf (c : HostCall) : List Byte := c.salt ++ be32 (BitVec.ofNat 32 c.count)

/-- The last actions of a call (R241, R234): `DO WIPE`, on the success path the error check of R234
(assumption log 20), `CLRST`, the report. -/
def endActs (success : Bool) : List HostAct :=
  doCmd .wipe ++ (if success then [HostAct.checkErr] else []) ++ clrst ++ [.report success]

/-- The actions of one key block (R237, R238). -/
def blockActs (saltDigest : List Byte) : List HostAct :=
  ldbuf .salt saltDigest ++ doCmd .kdfblk ++ [.checkErr]
    ++ (List.range 8).map HostAct.readOut ++ [.assembleBlock]

/-- The host starts a call (R232, R233, R236, R242). -/
def hostCall (password salt key : List Byte) (keyLength : Nat) (rounds : Word) (canAlloc : Bool)
    (h : HostAgent) : HostAgent :=
  if invalidCall password salt keyLength rounds canAlloc then
    { h with
      todo := []
      draws := h.draws + keyLength
      call := { HostCall.empty with
        keyLength := keyLength, rounds := rounds
        key := randomFill key keyLength h.draws, result := .failure } }
  else
    let c := startCall password salt key keyLength rounds
    { h with
      call := c
      todo := ldbuf .pass c.passDigest ++ [.wr 0x000C rounds, .startBlock] }

/-- The host builds and hashes `salt ‖ BE32(count)` and starts a key block (R237, R238). -/
def hostStartBlock (h : HostAgent) : HostAgent :=
  let cs := countSaltOf h.call
  { h with
    call := { h.call with countSalt := cs, out := [] }
    todo := blockActs (Config.digest cs).toList ++ h.todo }

/-- The host finds an error in the STATUS value it read (R234): the random fill, then `DO WIPE`,
`CLRST` and the report of failure. -/
def hostCheckErr (status : Word) (h : HostAgent) : HostAgent :=
  if status.getLsbD 2 then
    { h with
      draws := h.draws + h.call.keyLength
      call := { h.call with key := randomFill h.call.key h.call.keyLength h.draws }
      todo := endActs false }
  else h

/-- The host places a block and goes on with the next one or ends the call (R239, R242). -/
def hostAssemble (h : HostAgent) : HostAgent :=
  let c := placeBlock h.call
  { h with call := c, todo := (if 0 < c.remaining then [.startBlock] else endActs true) ++ h.todo }

/-- The host wipes its own buffers and reports (R241, R234). -/
def hostReport (success : Bool) (h : HostAgent) : HostAgent :=
  { h with call := { h.call with
      countSalt := wipeBytes h.call.countSalt, out := wipeBytes h.call.out
      passDigest := wipeBytes h.call.passDigest
      result := if success then .success else .failure } }

/-- The next action of the host and the agent without it; a running call's actions come first. -/
def nextAct (h : HostAgent) : Option (HostAct × HostAgent) :=
  match h.todo with
  | a :: rest => some (a, { h with todo := rest })
  | [] =>
      match h.prog with
      | a :: rest => some (a, { h with prog := rest })
      | [] => none

/-- One host action on a bus that reads by `rd` and writes by `wr`. `h` is the agent without the
action; the state still has it, so an action that has to wait leaves the state's host as it is. Each
action makes at most one bus transaction. -/
def hostAct (rd : BitVec 13 → State → Word) (wr : BitVec 13 → Word → State → State)
    (a : HostAct) (h : HostAgent) (s : State) : State :=
  match a with
  | .wr off w => wr off w { s with host := h }
  | .rd off => { s with host := { h with rx := rd off s :: h.rx } }
  | .waitIdle => if (rd 0x0004 s).getLsbD 0 then s else { s with host := h }
  | .waitIrq => if s.irq then { s with host := h } else s
  | .call password salt key keyLength rounds canAlloc =>
      { s with host := hostCall password salt key keyLength rounds canAlloc h }
  | .startBlock => { s with host := hostStartBlock h }
  | .checkErr => { s with host := hostCheckErr (rd 0x0004 s) h }
  | .readOut k =>
      { s with host := { h with call := { h.call with
          out := h.call.out ++ laneBytes (rd (BitVec.ofNat 13 (0x01A0 + 4 * k)) s) } } }
  | .assembleBlock => { s with host := hostAssemble h }
  | .report success => { s with host := hostReport success h }

/-- The host's step (20_memory.md R84, R85): its next action, or nothing when it has none. -/
def hostStep (s : State) : State :=
  match nextAct s.host with
  | some (a, h) => hostAct busRead busWrite a h s
  | none => s

/-- Reset while the host attempts its next action (70_reset_and_hazards.md R300): a read returns
0x00000000 and a write is ignored (assumption log 25). -/
def resetHostStep (s : State) : State :=
  let s := resetCore s
  match nextAct s.host with
  | some (a, h) => hostAct (fun _ _ => 0) (fun _ _ s => s) a h s
  | none => s

/-- The agent that moves when no turn is scheduled: the sequencer or the digest agent where it is
enabled, else the host (70_reset_and_hazards.md R312, assumption log 2). A digest agent that never
answers gets no turn and the host goes on beside the waiting core (20_memory.md R98, assumption
log 30). -/
def defaultTurn (s : State) : Turn :=
  match s.phase with
  | .run => .core
  | .wait =>
      match s.order with
      | .fair => .digest
      | .silentDigest => .host
  | .idle => .host

end Sys2Proof.Machine
end

