-- ==== Sys2Proof/Machine/Step.lean ====
section
/-! DEFINITION. One step of the machine: one atomic step of one agent (20_memory.md R85), the agent
whose turn `sched` says it is. -/

namespace Sys2Proof.Machine

/-- The core sequencer's turn (42_cmd_hash_kdf.md R210): enabled only in phase RUN, it runs one core
step of the command in `cur`. -/
def coreStep (s : State) : Host.Outcome State Fault Refusal :=
  match s.phase with
  | .run =>
      match fetchInstr s with
      | .ok i => exec i s
      | .error _ => .fault .undecodableCommand
  | .idle => .next s
  | .wait => .next s

/-- One turn of one agent. -/
def turnStep (t : Turn) (s : State) : Host.Outcome State Fault Refusal :=
  match t with
  | .host => .next (hostStep s)
  | .core => coreStep s
  | .digest => .next (digestStep s)
  | .reset => .next (resetCore s)
  | .resetHost => .next (resetHostStep s)

/-- One atomic step (20_memory.md R85): the next scheduled turn, or the default one. -/
def step (s : State) : Host.Outcome State Fault Refusal :=
  match s.sched with
  | t :: rest => turnStep t { s with sched := rest }
  | [] => turnStep (defaultTurn s) s

/-- `s` with command word `w` accepted and the core moving next, so that the next step runs it
(assumption log 3, 4). A command word has 32 bits (30_encoding.md R110). -/
def State.withFetchWord (s : State) (nbits w : Nat) : State := launch (tableWord nbits w) s

end Sys2Proof.Machine
end

