-- ==== Sys2Proof/Machine/Ports.lean ====
section
/-! DEFINITION. The data lanes of the digest port (20_memory.md R95, R96). The valid/ready handshake
is taken as the digest agent's one atomic step (R97, assumption log 18). -/

namespace Sys2Proof.Machine

/-- Bytes on a port of `n` bits: byte `i` in bits [8i+7:8i] (20_memory.md R96). -/
def packBytes (n : Nat) (bytes : List Byte) : BitVec n :=
  bytes.foldr (fun b v => (v <<< 8) ||| b.setWidth n) 0

/-- `dg_req_data` of the outstanding request, if any (20_memory.md R96). -/
def dgReqData (s : State) : Option (BitVec 256) := s.dreq.map fun m => packBytes 256 m.toList

/-- `dg_rsp_data`: the agent's answer to a message (20_memory.md R96, R98). -/
def dgRspData (m : List Byte) : BitVec 512 := packBytes 512 (Config.digest m).toList

/-- The bytes SALT takes from `dg_rsp_data` (20_memory.md R96). -/
def saltOfRsp (d : BitVec 512) : Vector Byte 64 :=
  Vector.ofFn fun (i : Fin 64) => d.extractLsb' (8 * i.val) 8

end Sys2Proof.Machine
end

