-- ==== Sys2Proof/Machine/Reference.lean ====
section
/-! DEFINITION. The functions the commands and the host procedure compute, written without the
machine: the entries of a key schedule (40_blockmixer_primitives.md R146), ExpensiveHash
(42_cmd_hash_kdf.md R201), the round chain (R208) and `deriveKey` (47_host_kdf_procedure.md R239,
R242). Statements compare the machine's runs with them. -/

namespace Sys2Proof.Machine

/-- Word `k` of a byte string streamed from its start: four bytes from `4k` on, modulo 64, the first
the most significant (40_blockmixer_primitives.md R144). -/
def streamedWord (buf : Vector Byte 64) (k : Nat) : Word :=
  wordOfBytes (buf[(4 * k + 3) % 64]'(Nat.mod_lt _ (by decide)))
    (buf[(4 * k + 2) % 64]'(Nat.mod_lt _ (by decide)))
    (buf[(4 * k + 1) % 64]'(Nat.mod_lt _ (by decide))) (buf[4 * k % 64]'(Nat.mod_lt _ (by decide)))

/-- Entry `e` of the 1042 table words in the order the key schedules write them: P[0..17], then S[0]
to S[3] (40_blockmixer_primitives.md R146). -/
def tableEntry (c : CipherState) (e : Nat) : Word :=
  if h : e < 18 then c.p[e]
  else (c.s[(e - 18) / 256]?.getD (Vector.replicate 256 0))[(e - 18) % 256]'
    (Nat.mod_lt _ (by decide))

/-- The tables when the first `e` entries are written: those of `new`, the others of `old`
(40_blockmixer_primitives.md R146). -/
def tablesAfter (e : Nat) (old new : CipherState) : CipherState :=
  { p := Vector.ofFn fun i => if i.val < e then new.p[i] else old.p[i]
    s := Vector.ofFn fun t => Vector.ofFn fun k =>
      if 18 + 256 * t.val + k.val < e then new.s[t][k] else old.s[t][k] }

/-- The running block before pair `b` of entries is written: zero, then the pair written last
(40_blockmixer_primitives.md R146). -/
def pairBefore (c : CipherState) : Nat → Word × Word
  | 0 => (0, 0)
  | b + 1 => (tableEntry c (2 * b), tableEntry c (2 * b + 1))

/-- ExpensiveHash as a function of the pre-hashed password and salt only (R201). -/
def hashOf (pass salt : Vector Byte 64) : Vector Byte 32 :=
  serialize (encryptPasses (hashSchedule pass salt) 64 4 (loadMagic zeroWords))

/-- SALT of round `n` of a key block, counting from 0 (R208): each later round hashes the previous
raw output. -/
def saltAt (pass salt : Vector Byte 64) : Nat → Vector Byte 64
  | 0 => salt
  | n + 1 => Config.digest (hashOf pass (saltAt pass salt n)).toList

/-- The raw output of round `n`, counting from 0. -/
def rawAt (pass salt : Vector Byte 64) (n : Nat) : Vector Byte 32 :=
  hashOf pass (saltAt pass salt n)

/-- The XOR of the raw outputs of rounds 0 to `n` (R208). -/
def outAt (pass salt : Vector Byte 64) : Nat → Vector Byte 32
  | 0 => rawAt pass salt 0
  | n + 1 => xorBytes (outAt pass salt n) (rawAt pass salt (n + 1))

/-- The 32 bytes of key block `count` (47_host_kdf_procedure.md R236 to R238). -/
def blockOut (password salt : List Byte) (rounds : Word) (count : Nat) : List Byte :=
  (outAt (Config.digest password) (Config.digest (salt ++ be32 (BitVec.ofNat 32 count)))
    (rounds.toNat - 1)).toList

/-- The loop over key blocks (R239), block `count` having the bytes `outs count`; `fuel` bounds the
number of blocks. -/
def assembleAll (outs : Nat → List Byte) : Nat → HostCall → HostCall
  | 0, c => c
  | fuel + 1, c =>
      if 0 < c.remaining then assembleAll outs fuel (placeBlock { c with out := outs c.count })
      else c

/-- `deriveKey` for a valid call (R242), into the buffer `key`. No valid call has more than 32
blocks (R235). -/
def deriveKeyRef (password salt key : List Byte) (keyLength : Nat) (rounds : Word) : List Byte :=
  (assembleAll (blockOut password salt rounds) 32
    (startCall password salt key keyLength rounds)).key

end Sys2Proof.Machine
end

