-- ==== Sys2Proof/Safety.lean ====
section
/-! DEFINITION. What counts as a safe run, and the terms claims use: the machine's invariant, runs of
commands to their completion, and what the bus may show. -/

namespace Sys2Proof.Machine

/-- The invariant of the machine (10_state.md R29, R31, R35; 60_exceptions.md R260, R267):
it holds after reset and every step keeps it. -/
structure State.Inv (s : State) : Prop where
  /-- DONE = 1 always refers to a completed command (R260). -/
  busy_not_done : s.busy = true → s.done = false
  /-- A request is outstanding only in phase WAIT (20_memory.md R97). -/
  request_in_wait : s.phase ≠ .wait → s.dreq = none
  /-- In phase WAIT the request is TMPOUT as it stands (20_memory.md R96). -/
  wait_message : s.phase = .wait → s.dreq = some s.tmpout
  /-- In phase WAIT the command resumes after its request (42_cmd_hash_kdf.md R210). -/
  wait_resume : s.phase = .wait → s.ret = .afterDigest
  /-- Only REHASH and KDFBLK resume after a request (42_cmd_hash_kdf.md R210). -/
  resume_command : s.busy = true → s.ret = .afterDigest →
    decode s.cur = .ok .rehash ∨ decode s.cur = .ok .kdfblk
  /-- The running word is a command (R260). -/
  running_decodes : s.busy = true → ∃ i, decode s.cur = .ok i
  /-- ERRCODE = 0 exactly when ERR = 0 (R31). -/
  code_iff_err : s.errcode = .none ↔ s.err = false
  /-- ROUNDCNT never exceeds the latched ROUNDS value (R29). -/
  count_bound : s.roundcnt ≤ s.rlat
  /-- While KDFBLK runs, the latched value is ROUNDS and a round is still to come (R208). -/
  kdf_latch : s.busy = true → decode s.cur = .ok .kdfblk →
    s.rlat = s.rounds ∧ s.roundcnt < s.rlat

/-- The outcome goes on. -/
def goesOn (o : Host.Outcome State Fault Refusal) : Prop := ∃ t, o = .next t

/-- A safe run: no number of steps ends in a fault or a refusal. -/
def SafeRun (s : State) : Prop := ∀ n, goesOn (Sys2Proof.core.run n s)

/-- The agent that moves next. -/
def nextTurn (s : State) : Turn :=
  match s.sched with
  | t :: _ => t
  | [] => defaultTurn s

/-- Weak fairness of the core sequencer and the digest agent (20_memory.md R98,
70_reset_and_hazards.md R312): at every point of the run, an agent whose step is enabled there comes
to move, or its step is no longer enabled. It is an assumption on the order of the agents, not a
fact of the core. -/
def weaklyFair (s : State) : Prop :=
  ∀ n t, Sys2Proof.core.run n s = .next t →
    ∃ m u, Sys2Proof.core.run m t = .next u ∧
      (t.phase = .run → u.phase ≠ .run ∨ nextTurn u = .core) ∧
      (t.phase = .wait → u.phase ≠ .wait ∨ nextTurn u = .digest)

/-- No reset is scheduled. -/
def noReset (s : State) : Prop := ∀ turn ∈ s.sched, turn ≠ .reset ∧ turn ≠ .resetHost

/-- The core and the digest agent alone, until the core is idle: `fuel` turns at most. -/
def runToIdle : Nat → State → Host.Outcome State Fault Refusal
  | 0, s => .next s
  | fuel + 1, s =>
      match s.phase with
      | .idle => .next s
      | .run =>
          match coreStep s with
          | .next t => runToIdle fuel t
          | .fault r => .fault r
          | .refused r => .refused r
      | .wait => runToIdle fuel (digestStep s)

/-- `DO <command>` (30_encoding.md R123) with nothing else going on: the CMD write, then the core and
the digest agent until idle. -/
def doCommand (fuel : Nat) (i : Instr) (s : State) : Host.Outcome State Fault Refusal :=
  runToIdle fuel (busWrite 0x0008 (encode i) s)

/-- `DO` of one command after another. -/
def doAll (fuel : Nat) : List Instr → State → Host.Outcome State Fault Refusal
  | [], s => .next s
  | i :: is, s =>
      match doCommand fuel i s with
      | .next t => doAll fuel is t
      | .fault r => .fault r
      | .refused r => .refused r

/-- `XHASH` as its commands (30_encoding.md R123). -/
def xhashCommands : List Instr :=
  [.init, .expand .salt .pass]
    ++ (List.replicate 64 [Instr.expand0 .salt, Instr.expand0 .pass]).flatten
    ++ [.loadmagic, .encrypt 64 4, .serialize]

/-- The command sequence of 42_cmd_hash_kdf.md R211 for `r` rounds. -/
def roundCommands (r : Nat) : List Instr :=
  [.bhash, .accload] ++ (List.replicate (r - 1) [Instr.rehash, .bhash, .accxor]).flatten

/-- The registers a bus read shows whatever BUSY is (20_memory.md R77) agree. -/
def sameControl (s s' : State) : Prop :=
  s.rounds = s'.rounds ∧ s.roundcnt = s'.roundcnt ∧ s.done = s'.done ∧ s.err = s'.err ∧
    s.errcode = s'.errcode ∧ s.doneie = s'.doneie ∧ s.errie = s'.errie ∧ s.phase = s'.phase

/-- The state with error `code` recorded and nothing else changed (60_exceptions.md R262). -/
def State.withError (s : State) (code : ErrCode) : State :=
  { s with err := true, errcode := if s.err then s.errcode else code }

/-- Every piece of the core's state that 10_state.md R40 lists has its reset value; `ret`, which R40
does not list, the host agent and the order of the agents may be anything. -/
def coreIsReset (s : State) : Prop :=
  { s with ret := State.reset.ret, host := State.reset.host, sched := State.reset.sched
           order := State.reset.order } = State.reset

/-- The words with a defined OP that R119 of 30_encoding.md gives BAD_FIELD, bit by bit. -/
def badWord (w : Word) : Prop :=
  w.extractLsb' 27 5 ≠ 0 ∨
  (w.extractLsb' 0 8 = 0x02 ∧
    (w.extractLsb' 16 11 ≠ 0 ∨ 1 < w.extractLsb' 8 4 ∨ 1 < w.extractLsb' 12 4)) ∨
  (w.extractLsb' 0 8 = 0x03 ∧ (w.extractLsb' 12 15 ≠ 0 ∨ 1 < w.extractLsb' 8 4)) ∨
  (w.extractLsb' 0 8 = 0x05 ∧
    (w.extractLsb' 8 8 ≠ 0 ∨ w.extractLsb' 16 8 = 0 ∨ w.extractLsb' 24 3 = 0 ∨
      4 < w.extractLsb' 24 3)) ∨
  (w.extractLsb' 0 8 ≠ 0x02 ∧ w.extractLsb' 0 8 ≠ 0x03 ∧ w.extractLsb' 0 8 ≠ 0x05 ∧
    w.extractLsb' 8 19 ≠ 0)

/-- The command a word of R119 names by its opcode, its selectors and its counts. -/
def commandOfWord (w : Word) : Instr :=
  let sel (c : BitVec 4) : Sel := if c = 0 then .pass else .salt
  match (w.extractLsb' 0 8).toNat with
  | 0x00 => .nop
  | 0x01 => .init
  | 0x02 => .expand (sel (w.extractLsb' 8 4)) (sel (w.extractLsb' 12 4))
  | 0x03 => .expand0 (sel (w.extractLsb' 8 4))
  | 0x04 => .loadmagic
  | 0x05 => .encrypt (w.extractLsb' 16 8).toNat (w.extractLsb' 24 3).toNat
  | 0x06 => .serialize
  | 0x07 => .bhash
  | 0x08 => .accload
  | 0x09 => .accxor
  | 0x0A => .rehash
  | 0x0B => .kdfblk
  | _ => .wipe

/-- A command whose only word is `w0`: every other word with its OP has a nonzero bit in [31:8] and is
BAD_FIELD (the encoding and error points of the rules of 41_cmd_cipher.md and
42_cmd_hash_kdf.md). -/
def onlyWord (i : Instr) (w0 : Word) : Prop :=
  encode i = w0 ∧ decode w0 = .ok i ∧
    ∀ w : Word, w.extractLsb' 0 8 = w0.extractLsb' 0 8 → w.extractLsb' 8 24 ≠ 0 →
      decode w = .error .badField

/-- The registers a bus write reaches only while the core is idle (20_memory.md R76). -/
def Reg.isData : Reg → Bool
  | .rounds => true
  | .pass _ => true
  | .salt _ => true
  | .cdata _ => true
  | .p _ => true
  | .s _ _ => true
  | .id => false
  | .status => false
  | .cmd => false
  | .roundcnt => false
  | .inten => false
  | .tmpout _ => false
  | .out _ => false
  | .reserved => false

/-- The offsets a bus write ignores without an error (20_memory.md R76). -/
def Reg.isReadOnly : Reg → Bool
  | .id => true
  | .roundcnt => true
  | .tmpout _ => true
  | .out _ => true
  | .reserved => true
  | .rounds => false
  | .pass _ => false
  | .salt _ => false
  | .cdata _ => false
  | .p _ => false
  | .s _ _ => false
  | .status => false
  | .cmd => false
  | .inten => false

/-- The data windows (20_memory.md R72). -/
def Reg.isWindow : Reg → Bool
  | .pass _ => true
  | .salt _ => true
  | .tmpout _ => true
  | .out _ => true
  | .cdata _ => true
  | .p _ => true
  | .s _ _ => true
  | .id => false
  | .status => false
  | .cmd => false
  | .rounds => false
  | .roundcnt => false
  | .inten => false
  | .reserved => false

end Sys2Proof.Machine
end

