-- ==== Sys2Proof/Certificates/Slice0/Obligations.lean ====
section
/-! DEFINITION. The statements for the provers. -/

open Sys2Proof Sys2Proof.Machine

/-- 10_state.md R40: every register after reset. -/
def Obligations.ResetRegisters : Prop :=
  (∀ i : Fin 18, State.reset.cipher.p[i] = 0) ∧
  (∀ (t : Fin 4) (k : Fin 256), State.reset.cipher.s[t][k] = 0) ∧
  (∀ k : Fin 8, State.reset.cdata[k] = 0) ∧
  (∀ i : Fin 64, State.reset.pass[i] = 0 ∧ State.reset.salt[i] = 0) ∧
  (∀ i : Fin 32, State.reset.tmpout[i] = 0 ∧ State.reset.out[i] = 0) ∧
  busRead 0x000C State.reset = 0 ∧ busRead 0x0010 State.reset = 0 ∧
  busRead 0x0004 State.reset = 0 ∧ busRead 0x0014 State.reset = 0 ∧
  busRead 0x0000 State.reset = 0x42504B01 ∧ State.reset.irq = false ∧
  State.reset.phase = .idle ∧ State.reset.cur = 0 ∧ State.reset.rlat = 0 ∧
  State.reset.dreq = none

/-- 70_reset_and_hazards.md R300: reset from any state, the abandoned request, and every bus access the
host attempts while `rst` is 1: a read returns 0 and a write is ignored. The model's choices, not
R300's: the host and its record of reads stay as they are (log 19, 24), and the attempted action is
used up (log 25), so WAIT, which reads BUSY = 0, and the error check, which reads ERR = 0, go on. -/
def Obligations.ResetFromAnyState : Prop :=
  ∀ s : State,
    (∃ t, turnStep .reset s = .next t ∧ coreIsReset t ∧ t.host = s.host ∧
      turnStep .digest t = .next t) ∧
    (∀ off h, nextAct s.host = some (.rd off, h) →
      ∃ t, turnStep .resetHost s = .next t ∧ coreIsReset t ∧ t.host = { h with rx := 0 :: h.rx }) ∧
    (∀ off w h, nextAct s.host = some (.wr off w, h) →
      ∃ t, turnStep .resetHost s = .next t ∧ coreIsReset t ∧ t.host = h) ∧
    (∀ h, nextAct s.host = some (.waitIdle, h) ∨ nextAct s.host = some (.checkErr, h) →
      ∃ t, turnStep .resetHost s = .next t ∧ coreIsReset t ∧ t.host = h) ∧
    (∀ k h, nextAct s.host = some (.readOut k, h) →
      ∃ t, turnStep .resetHost s = .next t ∧ coreIsReset t ∧
        t.host = { h with call := { h.call with out := h.call.out ++ [0, 0, 0, 0] } })

/-- 30_encoding.md R121. -/
def Obligations.WorkedEncodings : Prop :=
  (encode (.expand .salt .pass) = 0x00000102 ∧ decode 0x00000102 = .ok (.expand .salt .pass)) ∧
  (encode (.expand .pass .salt) = 0x00001002 ∧ decode 0x00001002 = .ok (.expand .pass .salt)) ∧
  (encode (.expand0 .pass) = 0x00000003 ∧ decode 0x00000003 = .ok (.expand0 .pass)) ∧
  (encode (.expand0 .salt) = 0x00000103 ∧ decode 0x00000103 = .ok (.expand0 .salt)) ∧
  (encode (.encrypt 64 4) = 0x04400005 ∧ decode 0x04400005 = .ok (.encrypt 64 4)) ∧
  (encode (.encrypt 1 1) = 0x01010005 ∧ decode 0x01010005 = .ok (.encrypt 1 1)) ∧
  (encode (.encrypt 255 4) = 0x04FF0005 ∧ decode 0x04FF0005 = .ok (.encrypt 255 4))

/-- 30_encoding.md R119: the decoder on every word. -/
def Obligations.DecodeOfEveryWord : Prop :=
  ∀ w : Word,
    (0x0C < w.extractLsb' 0 8 → decode w = .error .illegalOp) ∧
    (w.extractLsb' 0 8 ≤ 0x0C → badWord w → decode w = .error .badField) ∧
    (w.extractLsb' 0 8 ≤ 0x0C → ¬ badWord w → decode w = .ok (commandOfWord w))

/-- Every well-formed command, with every operand its encoding admits, decodes from its word. -/
def Obligations.DecodeOfEncode : Prop :=
  ∀ i : Instr, i.WellFormed → decode (encode i) = .ok i

/-- A word that decodes is the word of the command it gives, which is well formed: every accepted word
has one meaning and every command one word (92_eei_decisions.md D24). -/
def Obligations.EncodeOfDecode : Prop :=
  ∀ (w : Word) (i : Instr), decode w = .ok i → i.WellFormed ∧ encode i = w

/-- 60_exceptions.md R260, R262, R263: the write of any word to CMD in any state. The resume point
after acceptance is left open here (it is the model's reading, log 10). -/
def Obligations.SubmitEveryWord : Prop :=
  ∀ (s : State) (off : BitVec 13) (w : Word), regOf off = .cmd →
    (s.busy = true → busWrite off w s = s.withError .busy) ∧
    (s.busy = false → 0x0C < w.extractLsb' 0 8 → busWrite off w s = s.withError .illegalOp) ∧
    (s.busy = false → w.extractLsb' 0 8 ≤ 0x0C → badWord w →
      busWrite off w s = s.withError .badField) ∧
    (s.busy = false → w = 0x0000000B → s.rounds = 0 →
      busWrite off w s = s.withError .badRounds) ∧
    (s.busy = false → w = 0x0000000B → s.rounds ≠ 0 →
      ∃ r, busWrite off w s =
        { s with cur := w, done := false, phase := .run, rlat := s.rounds, roundcnt := 0
                 ret := r }) ∧
    (s.busy = false → w.extractLsb' 0 8 ≤ 0x0C → ¬ badWord w → w ≠ 0x0000000B →
      ∃ r, busWrite off w s = { s with cur := w, done := false, phase := .run, ret := r })

/-- 60_exceptions.md R261, R262 as STATUS shows them: the number of each error in bits 11:8 and ERR in
bit 2, the first code kept, and no code above 4. -/
def Obligations.ErrorCodesInStatus : Prop :=
  ∀ (s : State) (off : BitVec 13) (w : Word),
    let status := busRead 0x0004 (busWrite off w s)
    (s.err = false → s.busy = true → regOf off = .cmd ∨ (regOf off).isData = true →
      status.extractLsb' 8 4 = 3 ∧ status.getLsbD 2 = true) ∧
    (s.err = false → s.busy = false → regOf off = .cmd → 0x0C < w.extractLsb' 0 8 →
      status.extractLsb' 8 4 = 1 ∧ status.getLsbD 2 = true) ∧
    (s.err = false → s.busy = false → regOf off = .cmd → w.extractLsb' 0 8 ≤ 0x0C → badWord w →
      status.extractLsb' 8 4 = 2 ∧ status.getLsbD 2 = true) ∧
    (s.err = false → s.busy = false → regOf off = .cmd → w = 0x0000000B → s.rounds = 0 →
      status.extractLsb' 8 4 = 4 ∧ status.getLsbD 2 = true) ∧
    (s.err = true → regOf off ≠ .status →
      status.extractLsb' 8 4 = (busRead 0x0004 s).extractLsb' 8 4 ∧ status.getLsbD 2 = true) ∧
    status.extractLsb' 8 4 ≤ 4

/-- 20_memory.md R72 with R70 and R80: what each offset selects, its two low bits ignored. -/
def Obligations.RegisterMap : Prop :=
  ∀ b : Nat, b < 4 →
    regOf (BitVec.ofNat 13 (0x0000 + b)) = .id ∧
    regOf (BitVec.ofNat 13 (0x0004 + b)) = .status ∧
    regOf (BitVec.ofNat 13 (0x0008 + b)) = .cmd ∧
    regOf (BitVec.ofNat 13 (0x000C + b)) = .rounds ∧
    regOf (BitVec.ofNat 13 (0x0010 + b)) = .roundcnt ∧
    regOf (BitVec.ofNat 13 (0x0014 + b)) = .inten ∧
    (∀ k : Fin 16, regOf (BitVec.ofNat 13 (0x0100 + 4 * k.val + b)) = .pass k) ∧
    (∀ k : Fin 16, regOf (BitVec.ofNat 13 (0x0140 + 4 * k.val + b)) = .salt k) ∧
    (∀ k : Fin 8, regOf (BitVec.ofNat 13 (0x0180 + 4 * k.val + b)) = .tmpout k) ∧
    (∀ k : Fin 8, regOf (BitVec.ofNat 13 (0x01A0 + 4 * k.val + b)) = .out k) ∧
    (∀ k : Fin 8, regOf (BitVec.ofNat 13 (0x01C0 + 4 * k.val + b)) = .cdata k) ∧
    (∀ i : Fin 18, regOf (BitVec.ofNat 13 (0x0200 + 4 * i.val + b)) = .p i) ∧
    (∀ (t : Fin 4) (k : Fin 256),
      regOf (BitVec.ofNat 13 (0x0400 + 0x400 * t.val + 4 * k.val + b)) = .s t k) ∧
    (∀ a : Nat, (0x0018 ≤ a ∧ a < 0x0100) ∨ (0x01E0 ≤ a ∧ a < 0x0200) ∨
      (0x0248 ≤ a ∧ a < 0x0400) ∨ (0x1400 ≤ a ∧ a < 0x2000) →
      regOf (BitVec.ofNat 13 a) = .reserved)

/-- 20_memory.md R76: a bus write to each kind of register, busy or idle. -/
def Obligations.BusWriteRules : Prop :=
  ∀ (s : State) (off : BitVec 13) (w : Word),
    (regOf off = .cmd → busWrite off w s = submit w s) ∧
    (regOf off = .status → busWrite off w s =
      { s with done := s.done && !w.getLsbD 1, err := s.err && !w.getLsbD 2
               errcode := if w.getLsbD 2 then .none else s.errcode }) ∧
    (regOf off = .inten → busWrite off w s =
      { s with doneie := w.getLsbD 0, errie := w.getLsbD 1 }) ∧
    ((regOf off).isReadOnly = true → busWrite off w s = s) ∧
    (s.busy = true → (regOf off).isData = true → busWrite off w s = s.withError .busy) ∧
    (s.busy = false → regOf off = .rounds → busWrite off w s = { s with rounds := w }) ∧
    (∀ k, s.busy = false → regOf off = .pass k → ∃ v, busWrite off w s = { s with pass := v } ∧
      ∀ j : Fin 64, v[j] =
        if j.val / 4 = k.val then w.extractLsb' (8 * (j.val % 4)) 8 else s.pass[j]) ∧
    (∀ k, s.busy = false → regOf off = .salt k → ∃ v, busWrite off w s = { s with salt := v } ∧
      ∀ j : Fin 64, v[j] =
        if j.val / 4 = k.val then w.extractLsb' (8 * (j.val % 4)) 8 else s.salt[j]) ∧
    (∀ k, s.busy = false → regOf off = .cdata k → ∃ v, busWrite off w s = { s with cdata := v } ∧
      ∀ j : Fin 8, v[j] = if j = k then w else s.cdata[j]) ∧
    (∀ k, s.busy = false → regOf off = .p k → ∃ v,
      busWrite off w s = { s with cipher := { s.cipher with p := v } } ∧
      ∀ j : Fin 18, v[j] = if j = k then w else s.cipher.p[j]) ∧
    (∀ t k, s.busy = false → regOf off = .s t k → ∃ v,
      busWrite off w s = { s with cipher := { s.cipher with s := v } } ∧
      ∀ (i : Fin 4) (j : Fin 256), v[i][j] = if i = t ∧ j = k then w else s.cipher.s[i][j])

/-- 20_memory.md R77 (with the lanes of R73 and R74): the value of every bus read. -/
def Obligations.BusReadRules : Prop :=
  ∀ (s : State) (off : BitVec 13),
    (regOf off = .id → busRead off s = 0x42504B01) ∧
    (regOf off = .status → busRead off s = s.statusWord) ∧
    (regOf off = .rounds → busRead off s = s.rounds) ∧
    (regOf off = .roundcnt → busRead off s = s.roundcnt) ∧
    (regOf off = .inten → busRead off s = s.intenWord) ∧
    (regOf off = .cmd ∨ regOf off = .reserved → busRead off s = 0) ∧
    ((regOf off).isWindow = true → s.busy = true → busRead off s = 0) ∧
    (∀ k, s.busy = false → regOf off = .tmpout k → ∀ b : Fin 4,
      (busRead off s).extractLsb' (8 * b.val) 8 = s.tmpout[4 * k.val + b.val]) ∧
    (∀ k, s.busy = false → regOf off = .out k → ∀ b : Fin 4,
      (busRead off s).extractLsb' (8 * b.val) 8 = s.out[4 * k.val + b.val]) ∧
    (∀ k, s.busy = false → regOf off = .pass k → ∀ b : Fin 4,
      (busRead off s).extractLsb' (8 * b.val) 8 =
        if Config.stateReadback then s.pass[4 * k.val + b.val] else 0) ∧
    (∀ k, s.busy = false → regOf off = .salt k → ∀ b : Fin 4,
      (busRead off s).extractLsb' (8 * b.val) 8 =
        if Config.stateReadback then s.salt[4 * k.val + b.val] else 0) ∧
    (∀ k, s.busy = false → regOf off = .cdata k →
      busRead off s = if Config.stateReadback then s.cdata[k] else 0) ∧
    (∀ i, s.busy = false → regOf off = .p i →
      busRead off s = if Config.stateReadback then s.cipher.p[i] else 0) ∧
    (∀ t k, s.busy = false → regOf off = .s t k →
      busRead off s = if Config.stateReadback then s.cipher.s[t][k] else 0)

/-- 20_memory.md R73 and R74 on the bus: an idle write reads back (as zero where STATE_READBACK = 0
hides it), and no other offset reads differently. -/
def Obligations.ReadAfterWrite : Prop :=
  ∀ (s : State) (off off' : BitVec 13) (w : Word),
    s.busy = false → (regOf off).isData = true →
    busRead off (busWrite off w s) =
      (if regOf off = .rounds ∨ Config.stateReadback = true then w else 0) ∧
    (regOf off' ≠ regOf off → busRead off' (busWrite off w s) = busRead off' s)

/-- 20_memory.md R78: every host action that reads (an `RD` line, WAIT, the error check, a word of OUT)
changes only what the host knows, the named writes are idempotent, and a CMD write is not. Where the
word an `RD` line reads is kept is the model's choice (log 24), as is WAIT's one read a step
(log 28). -/
def Obligations.ReadsAndRepeatedWrites : Prop :=
  (∀ (s : State) (h : HostAgent),
    (∀ off, nextAct s.host = some (.rd off, h) →
      turnStep .host s = .next { s with host := { h with rx := busRead off s :: h.rx } }) ∧
    (nextAct s.host = some (.waitIdle, h) →
      turnStep .host s = .next (if s.busy then s else { s with host := h })) ∧
    (nextAct s.host = some (.checkErr, h) → ∃ h', turnStep .host s = .next { s with host := h' } ∧
      (s.err = false → h' = h)) ∧
    (∀ k : Fin 8, nextAct s.host = some (.readOut k, h) →
      turnStep .host s = .next { s with host := { h with call := { h.call with
        out := h.call.out ++ laneBytes (busRead (BitVec.ofNat 13 (0x01A0 + 4 * k.val)) s) } } })) ∧
  (∀ (s : State) (off : BitVec 13) (w : Word),
    regOf off = .status ∨ regOf off = .inten ∨ (regOf off).isData = true →
    busWrite off w (busWrite off w s) = busWrite off w s) ∧
  (∃ (s : State) (w : Word), busWrite 0x0008 w (busWrite 0x0008 w s) ≠ busWrite 0x0008 w s)

/-- 10_state.md R31 and 60_exceptions.md R266: the bits of STATUS before and after a write to it, and
that nothing else changes. -/
def Obligations.StatusWriteClearsOnly : Prop :=
  ∀ (s : State) (off : BitVec 13) (w : Word), regOf off = .status →
    s.statusWord.getLsbD 0 = s.busy ∧ s.statusWord.getLsbD 3 = s.dwait ∧
    (busWrite off w s).statusWord.getLsbD 0 = s.busy ∧
    (busWrite off w s).statusWord.getLsbD 1 = (s.statusWord.getLsbD 1 && !w.getLsbD 1) ∧
    (busWrite off w s).statusWord.getLsbD 2 = (s.statusWord.getLsbD 2 && !w.getLsbD 2) ∧
    (busWrite off w s).statusWord.getLsbD 3 = s.dwait ∧
    (busWrite off w s).statusWord.extractLsb' 4 4 = 0 ∧
    (busWrite off w s).statusWord.extractLsb' 8 4 =
      (if w.getLsbD 2 then 0 else s.statusWord.extractLsb' 8 4) ∧
    (busWrite off w s).statusWord.extractLsb' 12 20 = 0 ∧
    (∃ d e c, busWrite off w s = { s with done := d, err := e, errcode := c })

/-- 10_state.md R34: irq from the bits software reads. -/
def Obligations.InterruptLine : Prop :=
  ∀ s : State, s.irq =
    (((busRead 0x0004 s).getLsbD 1 && (busRead 0x0014 s).getLsbD 0) ||
      ((busRead 0x0004 s).getLsbD 2 && (busRead 0x0014 s).getLsbD 1))

/-- 60_exceptions.md R270: masking lowers irq and keeps the pending bits, W1C of both sources lowers
it, and an acceptance clears the completion source. -/
def Obligations.InterruptSources : Prop :=
  ∀ s : State,
    ((busWrite 0x0014 0 s).irq = false ∧ (busWrite 0x0014 0 s).statusWord = s.statusWord) ∧
    (busWrite 0x0004 0x00000006 s).irq = false ∧
    (∀ (w : Word) (i : Instr), s.busy = false → decode w = .ok i →
      (i = .kdfblk → s.rounds ≠ 0) → (busWrite 0x0008 w s).irq = (s.err && s.errie))

/-- 40_blockmixer_primitives.md R141, R142: F byte by byte, S[0] indexed by the most significant byte,
and Encipher's sixteen rounds two at a time, an odd round on the right half under P[2k+1], an even one
on the left half under P[2k+2]; so the all-zero tables swap the halves. -/
def Obligations.EncipherIsSixteenRounds : Prop :=
  (∀ (c : CipherState) (x3 x2 x1 x0 : Byte), roundF c (wordOfBytes x0 x1 x2 x3) =
    ((c.s[0][x3.toNat] + c.s[1][x2.toNat]) ^^^ c.s[2][x1.toNat]) + c.s[3][x0.toNat]) ∧
  (∀ (c : CipherState) (l r : Word), ∃ left right : Nat → Word,
    left 0 = l ^^^ c.p[0] ∧ right 0 = r ∧
    (∀ k : Fin 8,
      right (k.val + 1) = right k.val ^^^ roundF c (left k.val) ^^^ c.p[2 * k.val + 1] ∧
      left (k.val + 1) = left k.val ^^^ roundF c (right (k.val + 1)) ^^^ c.p[2 * k.val + 2]) ∧
    encipher c l r = (right 8 ^^^ c.p[17], left 8)) ∧
  (∀ l r : Word, encipher .zero l r = (r, l))

/-- 40_blockmixer_primitives.md R143: Encipher is a bijection on blocks for any P and S. -/
def Obligations.EncipherIsABijection : Prop :=
  ∀ c : CipherState, Function.Bijective (fun lr : Word × Word => encipher c lr.1 lr.2)

/-- 40_blockmixer_primitives.md R144: the four bytes from the cursor on, wrapping at `n`, the first
the most significant, and the cursor the next call takes. -/
def Obligations.StreamWordIsBigEndian : Prop :=
  ∀ (n : Nat) (buf : Vector Byte n) (j : Nat) (hn : 0 < n), j ≤ n →
    streamWord buf j =
      (wordOfBytes (buf[(j + 3) % n]'(Nat.mod_lt _ hn)) (buf[(j + 2) % n]'(Nat.mod_lt _ hn))
        (buf[(j + 1) % n]'(Nat.mod_lt _ hn)) (buf[j % n]'(Nat.mod_lt _ hn)), (j + 3) % n + 1)

/-- 40_blockmixer_primitives.md R146, R147: the key phase, key bytes 0 to 7 used twice, and then each of
the 521 pairs of entries, P first and S[0] to S[3] after it: the encipherment of the pair before it,
xored with the next two data words for EXPAND, under the tables as they stand when the pairs before
it are written. -/
def Obligations.KeyPhaseAndEveryBlock : Prop :=
  (∀ (p : Vector Word 18) (key : Vector Byte 64) (i : Fin 18),
    (xorKey p key)[i] = p[i] ^^^ wordOfBytes
      (key[(4 * i.val + 3) % 64]'(by omega)) (key[(4 * i.val + 2) % 64]'(by omega))
      (key[(4 * i.val + 1) % 64]'(by omega)) (key[4 * i.val % 64]'(by omega))) ∧
  (∀ (c : CipherState) (data key : Vector Byte 64) (b : Fin 521),
    (tableEntry (expand c data key) (2 * b.val), tableEntry (expand c data key) (2 * b.val + 1)) =
      encipher (tablesAfter (2 * b.val) { c with p := xorKey c.p key } (expand c data key))
        ((pairBefore (expand c data key) b.val).1 ^^^ streamedWord data (2 * b.val))
        ((pairBefore (expand c data key) b.val).2 ^^^ streamedWord data (2 * b.val + 1))) ∧
  (∀ (c : CipherState) (key : Vector Byte 64) (b : Fin 521),
    (tableEntry (expand0 c key) (2 * b.val), tableEntry (expand0 c key) (2 * b.val + 1)) =
      encipher (tablesAfter (2 * b.val) { c with p := xorKey c.p key } (expand0 c key))
        (pairBefore (expand0 c key) b.val).1 (pairBefore (expand0 c key) b.val).2)

/-- 40_blockmixer_primitives.md R148 (a), 41_cmd_cipher.md R173: EXPAND with 64 zero bytes of data and
EXPAND0 leave the same state. -/
def Obligations.ExpandWithZeroData : Prop :=
  (∀ (c : CipherState) (key : Vector Byte 64), expand c (zeros 64) key = expand0 c key) ∧
  (∀ (data key : Sel) (s : State), s.buf data = zeros 64 →
    ∃ t, exec (.expand data key) s = .next t ∧ exec (.expand0 key) s = .next t)

/-- 41_cmd_cipher.md R170. -/
def Obligations.NopCompletes : Prop :=
  onlyWord .nop 0x00000000 ∧
  (∀ s : State, exec .nop s = .next { s with phase := .idle, done := true }) ∧
  (∃ t, doCommand 1 .nop State.reset = .next t ∧ busRead 0x0004 t = 0x00000002)

/-- 41_cmd_cipher.md R171. -/
def Obligations.InitLoadsTheConstants : Prop :=
  onlyWord .init 0x00000001 ∧
  (∀ s : State, ∃ c, exec .init s = .next { s with cipher := c, phase := .idle, done := true } ∧
    (∀ i : Fin 18, c.p[i] = pInit[i]) ∧
    (∀ (t : Fin 4) (k : Fin 256), c.s[t][k] = sInit[t][k])) ∧
  (∀ s : State, s.busy = false → ∃ t, doCommand 1 .init s = .next t ∧
    busRead 0x0200 t = (if Config.stateReadback then 0x243F6A88 else 0) ∧
    busRead 0x13FC t = (if Config.stateReadback then 0x3AC372E6 else 0))

/-- 41_cmd_cipher.md R172. -/
def Obligations.ExpandRunsTheKeySchedule : Prop :=
  (∀ data key : Sel, encode (.expand data key) =
    0#5 ++ 0#3 ++ 0#8 ++ (if key = .pass then 0#4 else 1#4) ++
      (if data = .pass then 0#4 else 1#4) ++ 0x02#8) ∧
  (∀ w : Word, w.extractLsb' 0 8 = 0x02 →
    1 < w.extractLsb' 8 4 ∨ 1 < w.extractLsb' 12 4 ∨ w.extractLsb' 16 16 ≠ 0 →
    decode w = .error .badField) ∧
  (∀ (data key : Sel) (s : State), exec (.expand data key) s = .next
    { s with cipher := expand s.cipher (if data = .pass then s.pass else s.salt)
               (if key = .pass then s.pass else s.salt)
             phase := .idle, done := true }) ∧
  encode (.expand .salt .pass) = 0x00000102

/-- 41_cmd_cipher.md R173, without its worked example. -/
def Obligations.Expand0RunsTheKeySchedule : Prop :=
  (∀ key : Sel, encode (.expand0 key) =
    0#5 ++ 0#3 ++ 0#8 ++ 0#4 ++ (if key = .pass then 0#4 else 1#4) ++ 0x03#8) ∧
  (∀ w : Word, w.extractLsb' 0 8 = 0x03 →
    1 < w.extractLsb' 8 4 ∨ w.extractLsb' 12 20 ≠ 0 → decode w = .error .badField) ∧
  (∀ (key : Sel) (s : State), exec (.expand0 key) s = .next
    { s with cipher := expand0 s.cipher (if key = .pass then s.pass else s.salt)
             phase := .idle, done := true })

/-- 41_cmd_cipher.md R174, with the words of 12_constant_rom.md R67. -/
def Obligations.LoadmagicLoadsTheMagicWords : Prop :=
  onlyWord .loadmagic 0x00000004 ∧
  (∀ s : State, exec .loadmagic s = .next
    { s with cdata := #v[0x4F787963, 0x68726F6D, 0x61746963, 0x426C6F77,
                         0x66697368, 0x53776174, 0x44796E61, 0x6D697465]
             phase := .idle, done := true })

/-- 41_cmd_cipher.md R175 with 40_blockmixer_primitives.md R149: each of the first `m` pairs is
enciphered `n` times under the tables as they stand, and nothing else changes. -/
def Obligations.EncryptRunsPassesOnPairs : Prop :=
  ∀ (n m : Nat) (s : State), (Instr.encrypt n m).WellFormed →
    ∃ d, exec (.encrypt n m) s = .next { s with cdata := d, phase := .idle, done := true } ∧
      ∀ b : Fin 4, (d[2 * b.val], d[2 * b.val + 1]) =
        if b.val < m then
          (fun lr : Word × Word => encipher s.cipher lr.1 lr.2)^[n]
            (s.cdata[2 * b.val], s.cdata[2 * b.val + 1])
        else (s.cdata[2 * b.val], s.cdata[2 * b.val + 1])

/-- 41_cmd_cipher.md R175: passes add up. -/
def Obligations.EncryptPassesAdd : Prop :=
  ∀ (a b m : Nat) (s : State), 1 ≤ a → 1 ≤ b → a + b ≤ 255 → 1 ≤ m → m ≤ 4 →
    ∃ t u, exec (.encrypt a m) s = .next t ∧ exec (.encrypt b m) t = .next u ∧
      exec (.encrypt (a + b) m) s = .next u

/-- 41_cmd_cipher.md R176, R177: the bytes of TMPOUT, the frame, and the words the bus shows. -/
def Obligations.SerializeWritesLeastSignificantFirst : Prop :=
  onlyWord .serialize 0x00000006 ∧
  (∀ s : State, ∃ v, exec .serialize s =
      .next { s with tmpout := v, phase := .idle, done := true } ∧
    (∀ (k : Fin 8) (b : Fin 4),
      v[4 * k.val + b.val] = s.cdata[k].extractLsb' (8 * b.val) 8) ∧
    (∀ k : Fin 8, busRead (BitVec.ofNat 13 (0x0180 + 4 * k.val))
      { s with tmpout := v, phase := .idle, done := true } = s.cdata[k]))

/-- 42_cmd_hash_kdf.md R201, R202: the result is a function of PASS and SALT alone, whatever P, S and
CDATA held, P, S and CDATA end at zero, and nothing else changes. -/
def Obligations.BhashHashesAndWipes : Prop :=
  onlyWord .bhash 0x00000007 ∧
  (∀ s : State, exec .bhash s = .next
    { s with tmpout := hashOf s.pass s.salt, cipher := .zero, cdata := zeroWords
             phase := .idle, done := true })

/-- 42_cmd_hash_kdf.md R202, 30_encoding.md R123: XHASH, command by command, leaves the TMPOUT that
BHASH leaves, and the same PASS, SALT and OUT. -/
def Obligations.BhashEqualsXhash : Prop :=
  ∀ s : State, s.busy = false →
    ∃ t u, doAll 1 xhashCommands s = .next t ∧ doCommand 1 .bhash s = .next u ∧
      t.tmpout = u.tmpout ∧ t.pass = u.pass ∧ t.salt = u.salt ∧ t.out = u.out

/-- 42_cmd_hash_kdf.md R203, without its worked example. -/
def Obligations.AccloadCopiesTheRawOutput : Prop :=
  onlyWord .accload 0x00000008 ∧
  (∀ s : State, ∃ v, exec .accload s = .next { s with out := v, phase := .idle, done := true } ∧
    ∀ i : Fin 32, v[i] = s.tmpout[i])

/-- 42_cmd_hash_kdf.md R204, R205: byte by byte, and word by word on the bus; after ACCLOAD the result
is zero, and a second ACCXOR restores OUT. -/
def Obligations.AccxorXorsBytesAndWords : Prop :=
  onlyWord .accxor 0x00000009 ∧
  (∀ s : State, ∃ v, exec .accxor s = .next { s with out := v, phase := .idle, done := true } ∧
    ∀ i : Fin 32, v[i] = s.out[i] ^^^ s.tmpout[i]) ∧
  (∀ s : State, s.busy = false → ∃ t, doCommand 1 .accxor s = .next t ∧ ∀ k : Fin 8,
    busRead (BitVec.ofNat 13 (0x01A0 + 4 * k.val)) t =
      busRead (BitVec.ofNat 13 (0x01A0 + 4 * k.val)) s ^^^
        busRead (BitVec.ofNat 13 (0x0180 + 4 * k.val)) s) ∧
  (∀ s : State, ∃ t u, exec .accload s = .next t ∧ exec .accxor t = .next u ∧
    u.out = zeros 32) ∧
  (∀ s : State, ∃ t u, exec .accxor s = .next t ∧ exec .accxor t = .next u ∧ u.out = s.out)

/-- 42_cmd_hash_kdf.md R206 with 20_memory.md R96: the request, the answer and the completion, each
alone and as one `DO REHASH`. That the body starts at its top is log 10. -/
def Obligations.RehashReplacesSalt : Prop :=
  onlyWord .rehash 0x0000000A ∧
  (∀ s : State, s.ret = .top → exec .rehash s = .next
    { s with dreq := some s.tmpout, ret := .afterDigest, phase := .wait }) ∧
  (∀ (s : State) (m : Vector Byte 32), s.phase = .wait → s.dreq = some m →
    turnStep .digest s = .next
      { s with salt := Config.digest m.toList, dreq := none, phase := .run }) ∧
  (∀ s : State, s.ret = .afterDigest → exec .rehash s = .next
    { s with phase := .idle, done := true }) ∧
  (∀ s : State, s.busy = false → ∃ r, doCommand 3 .rehash s = .next
    { s with salt := Config.digest s.tmpout.toList, cur := 0x0000000A, done := true
             dreq := none, ret := r })

/-- 42_cmd_hash_kdf.md R208: one core step of KDFBLK, from the top and after a digest. -/
def Obligations.KdfblkOneRound : Prop :=
  onlyWord .kdfblk 0x0000000B ∧
  (∀ s : State, s.ret = .top → 1 < s.rlat → exec .kdfblk s = .next
    { s with tmpout := hashOf s.pass s.salt, out := hashOf s.pass s.salt, roundcnt := 1
             cipher := .zero, cdata := zeroWords
             dreq := some (hashOf s.pass s.salt), ret := .afterDigest, phase := .wait }) ∧
  (∀ s : State, s.ret = .top → ¬ 1 < s.rlat → exec .kdfblk s = .next
    { s with tmpout := hashOf s.pass s.salt, out := hashOf s.pass s.salt, roundcnt := 1
             cipher := .zero, cdata := zeroWords, phase := .idle, done := true }) ∧
  (∀ s : State, s.ret = .afterDigest → s.roundcnt + 1 < s.rlat → exec .kdfblk s = .next
    { s with tmpout := hashOf s.pass s.salt, out := xorBytes s.out (hashOf s.pass s.salt)
             roundcnt := s.roundcnt + 1, cipher := .zero, cdata := zeroWords
             dreq := some (hashOf s.pass s.salt), ret := .afterDigest, phase := .wait }) ∧
  (∀ s : State, s.ret = .afterDigest → ¬ s.roundcnt + 1 < s.rlat → exec .kdfblk s = .next
    { s with tmpout := hashOf s.pass s.salt, out := xorBytes s.out (hashOf s.pass s.salt)
             roundcnt := s.roundcnt + 1, cipher := .zero, cdata := zeroWords
             phase := .idle, done := true })

/-- 42_cmd_hash_kdf.md R208, R210: an accepted KDFBLK with rlat = r runs r core steps and r - 1
digest steps and leaves the round chain's results. Which agent moves is the fair default order
(log 2, 30). -/
def Obligations.KdfblkRunsTheRoundChain : Prop :=
  ∀ s : State, s.sched = [] → s.order = .fair → s.phase = .run → s.cur = 0x0000000B → s.ret = .top →
    s.dreq = none → s.rlat ≠ 0 →
    ∃ r, Sys2Proof.core.run (2 * s.rlat.toNat - 1) s = .next
      { s with
        out := outAt s.pass s.salt (s.rlat.toNat - 1)
        tmpout := rawAt s.pass s.salt (s.rlat.toNat - 1)
        salt := saltAt s.pass s.salt (s.rlat.toNat - 1)
        roundcnt := s.rlat, cipher := .zero, cdata := zeroWords
        phase := .idle, done := true, ret := r }

/-- 42_cmd_hash_kdf.md R211: the command sequence and KDFBLK leave the same buffers. -/
def Obligations.KdfblkEqualsPrimitiveSequence : Prop :=
  ∀ s : State, s.busy = false → s.rounds ≠ 0 →
    ∃ t u, doCommand (2 * s.rounds.toNat) .kdfblk s = .next t ∧
      doAll 3 (roundCommands s.rounds.toNat) s = .next u ∧
      t.pass = u.pass ∧ t.salt = u.salt ∧ t.tmpout = u.tmpout ∧ t.out = u.out ∧
      t.cipher = u.cipher ∧ t.cdata = u.cdata ∧
      t.roundcnt = s.rounds ∧ u.roundcnt = s.roundcnt

/-- 42_cmd_hash_kdf.md R209. -/
def Obligations.WipeZeroesEverySensitiveBuffer : Prop :=
  onlyWord .wipe 0x0000000C ∧
  (∀ s : State, ∃ t, exec .wipe s = .next t ∧
    t = { s with cipher := .zero, cdata := zeroWords, pass := zeros 64, salt := zeros 64
                 tmpout := zeros 32, out := zeros 32, roundcnt := 0, phase := .idle
                 done := true } ∧
    (∀ off : BitVec 13, (regOf off).isWindow = true ∨ regOf off = .roundcnt →
      busRead off t = 0) ∧
    (s.err = false → s.errcode = .none → busRead 0x0004 t = 0x00000002)) ∧
  exec .wipe State.reset = .next { State.reset with done := true }

/-- 60_exceptions.md R267: a command that runs always goes on, from every state. -/
def Obligations.RunningCommandsNeverFail : Prop :=
  ∀ (i : Instr) (s : State), ∃ t, exec i s = .next t

/-- 10_state.md R21 to R29 and R39: the only commands that change each buffer, and the registers no
command body changes. -/
def Obligations.WritersOfEachBuffer : Prop :=
  ∀ (i : Instr) (s t : State), exec i s = .next t →
    (t.rounds = s.rounds ∧ t.err = s.err ∧ t.errcode = s.errcode ∧ t.doneie = s.doneie ∧
      t.errie = s.errie ∧ t.cur = s.cur ∧ t.rlat = s.rlat ∧ t.host = s.host ∧
      t.sched = s.sched ∧ t.order = s.order) ∧
    (t.pass ≠ s.pass → i = .wipe) ∧
    (t.salt ≠ s.salt → i = .wipe) ∧
    (t.cipher ≠ s.cipher → i = .init ∨ (∃ d k, i = .expand d k) ∨ (∃ k, i = .expand0 k) ∨
      i = .bhash ∨ i = .kdfblk ∨ i = .wipe) ∧
    (t.cdata ≠ s.cdata → i = .loadmagic ∨ (∃ n m, i = .encrypt n m) ∨ i = .bhash ∨
      i = .kdfblk ∨ i = .wipe) ∧
    (t.tmpout ≠ s.tmpout → i = .serialize ∨ i = .bhash ∨ i = .kdfblk ∨ i = .wipe) ∧
    (t.out ≠ s.out → i = .accload ∨ i = .accxor ∨ i = .kdfblk ∨ i = .wipe) ∧
    (t.roundcnt ≠ s.roundcnt → i = .kdfblk ∨ i = .wipe) ∧
    (t.dreq ≠ s.dreq → i = .rehash ∨ i = .kdfblk)

/-- 42_cmd_hash_kdf.md R210: the core's turn in phase RUN is the meaning of the decoded command; which
agent moves is read off the schedule (log 1, 2). -/
def Obligations.StepRunsTheDecodedCommand : Prop :=
  ∀ (s : State) (i : Instr), s.phase = .run → decode s.cur = .ok i →
    (∀ rest, s.sched = .core :: rest →
      Sys2Proof.Machine.step s = exec i { s with sched := rest }) ∧
    (s.sched = [] → Sys2Proof.Machine.step s = exec i s)

/-- The model's probe (log 3, 4): the step after `withFetchWord` runs the command of the word, from its
top, with KDFBLK's ROUNDS not 0. -/
def Obligations.FetchWordRunsTheCommand : Prop :=
  ∀ (s : State) (i : Instr), i.WellFormed →
    Sys2Proof.Machine.step (s.withFetchWord 32 (encode i).toNat) = exec i
      { s with
        cur := encode i, done := false, phase := .run, ret := .top, dreq := none
        rounds := if i = .kdfblk ∧ s.rounds = 0 then 1 else s.rounds
        rlat := if i = .kdfblk then (if s.rounds = 0 then 1 else s.rounds) else s.rlat
        roundcnt := if i = .kdfblk then 0 else s.roundcnt }

/-- The invariant holds after reset. -/
def Obligations.ResetMeetsTheInvariant : Prop := State.reset.Inv

/-- Every step of every agent keeps the invariant (10_state.md R29, R31, R35, 60_exceptions.md
R260). -/
def Obligations.StepKeepsTheInvariant : Prop :=
  ∀ s t : State, s.Inv → Sys2Proof.Machine.step s = .next t → t.Inv

/-- 60_exceptions.md R265, R267: from a state that meets the invariant no run stops. -/
def Obligations.InvariantRunsNeverStop : Prop := ∀ s : State, s.Inv → SafeRun s

/-- 20_memory.md R97: a digest response that nothing asked for changes nothing. -/
def Obligations.UnsolicitedDigestIgnored : Prop :=
  ∀ s : State, s.phase ≠ .wait ∨ s.dreq = none → turnStep .digest s = .next s

/-- 20_memory.md R96: the lanes of the digest port in both directions, and what the answer leaves in
SALT. -/
def Obligations.DigestPortLanes : Prop :=
  ∀ (s : State) (m : Vector Byte 32), s.phase = .wait → s.dreq = some m →
    (∃ d, dgReqData s = some d ∧
      ∀ i : Fin 32, d.extractLsb' (8 * i.val) 8 = m[i]) ∧
    (∃ t, turnStep .digest s = .next t ∧
      ∀ i : Fin 64, t.salt[i] = (dgRspData m.toList).extractLsb' (8 * i.val) 8)

/-- 20_memory.md R77, R86: while BUSY = 1 the bus shows nothing that depends on a data buffer or on
the command. -/
def Obligations.BusyHidesIntermediateValues : Prop :=
  ∀ s s' : State, s.busy = true → sameControl s s' →
    ∀ off : BitVec 13, busRead off s = busRead off s'

/-- 20_memory.md R77, 92_eei_decisions.md D17: unless STATE_READBACK = 1 the bus never shows PASS,
SALT, CDATA, P or S. -/
def Obligations.NoReadbackHidesTheSecrets : Prop :=
  ∀ s s' : State, sameControl s s' → s.tmpout = s'.tmpout → s.out = s'.out →
    ∀ off : BitVec 13, Config.stateReadback = true ∨ busRead off s = busRead off s'

/-- 20_memory.md R79, R89 and 60_exceptions.md R262: whatever the host writes while a command runs, the
command computes the same; only the host's own bits differ. -/
def Obligations.HostCannotDisturbARunningCommand : Prop :=
  ∀ (i : Instr) (s t : State) (off : BitVec 13) (w : Word), s.busy = true →
    exec i s = .next t →
    ∃ u, exec i (busWrite off w s) = .next u ∧
      { u with done := t.done, err := t.err, errcode := t.errcode, doneie := t.doneie
               errie := t.errie } = t

/-- 47_host_kdf_procedure.md R232: when a call is rejected. -/
def Obligations.HostRejectsInvalidCalls : Prop :=
  ∀ (password salt : List Byte) (keyLength : Nat) (rounds : Word) (canAlloc : Bool),
    invalidCall password salt keyLength rounds canAlloc = true ↔
      rounds.toNat < 1 ∨ password.length = 0 ∨ salt.length = 0 ∨ keyLength = 0 ∨
        keyLength > 1024 ∨ salt.length > 2 ^ 20 ∨ canAlloc = false

/-- 47_host_kdf_procedure.md R233: a rejected call makes no bus transaction, fills exactly the key's
bytes with draws of the random source and reports failure; the call holds no buffer (R241). That the
draws are successive bytes of one stream is the model's choice (log 22). -/
def Obligations.RejectedCallFillsTheKey : Prop :=
  ∀ (s : State) (h : HostAgent) (password salt key : List Byte) (keyLength : Nat) (rounds : Word)
    (canAlloc : Bool),
    nextAct s.host = some (.call password salt key keyLength rounds canAlloc, h) →
    invalidCall password salt keyLength rounds canAlloc = true →
    ∃ h' : HostAgent, turnStep .host s = .next { s with host := h' } ∧
      h'.prog = h.prog ∧ h'.todo = [] ∧ h'.rx = h.rx ∧ h'.call.result = .failure ∧
      h'.call.countSalt = [] ∧ h'.call.out = [] ∧ h'.call.passDigest = [] ∧
      h'.call.key.length = key.length ∧
      ∀ j : Nat, j < key.length → h'.call.key[j]? =
        if j < keyLength then some (Config.randomByte (h.draws + j)) else key[j]?

/-- 47_host_kdf_procedure.md R235: stride and amt are the two ceilings, each between 1 and 32. -/
def Obligations.StrideAndAmountBounds : Prop :=
  ∀ k : Nat, 1 ≤ k → k ≤ 1024 →
    (k ≤ 32 * strideOf k ∧ 32 * (strideOf k - 1) < k) ∧
    (k ≤ strideOf k * amtOf k ∧ strideOf k * (amtOf k - 1) < k) ∧
    1 ≤ strideOf k ∧ strideOf k ≤ 32 ∧ 1 ≤ amtOf k ∧ amtOf k ≤ 32

/-- 47_host_kdf_procedure.md R239, R240: for every key length the loop runs `stride` blocks, byte `i`
of block `b` lands at `i*stride + b - 1`, and these places are every index of the key, each once. -/
def Obligations.AssemblyWritesEveryByteOnce : Prop :=
  ∀ (outs : Nat → List Byte) (password salt key : List Byte) (k : Nat) (rounds : Word),
    (∀ b, (outs b).length = 32) → 1 ≤ k → k ≤ 1024 → key.length = k →
    let c := assembleAll outs 32 (startCall password salt key k rounds)
    c.remaining = 0 ∧ c.count = strideOf k + 1 ∧ c.key.length = k ∧
    (∀ i b : Nat, 1 ≤ b → b ≤ strideOf k → i * strideOf k + b - 1 < k →
      c.key[i * strideOf k + b - 1]? = (outs b)[i]?) ∧
    (∀ d : Nat, d < k → ∃! ib : Nat × Nat, ib.1 < 32 ∧ 1 ≤ ib.2 ∧ ib.2 ≤ strideOf k ∧
      d = ib.1 * strideOf k + ib.2 - 1)

/-- 30_encoding.md R123 with 20_memory.md R73: the 16 writes of LDBUF load the bytes in order. The
host moves because nothing else is enabled (log 2). -/
def Obligations.LdbufLoadsTheBuffer : Prop :=
  ∀ (s : State) (bytes : Vector Byte 64) (rest : List HostAct), s.busy = false → s.sched = [] →
    s.host.todo = [] →
    (s.host.prog = ldbuf .pass bytes.toList ++ rest →
      Sys2Proof.core.run 16 s = .next
        { s with pass := bytes, host := { s.host with prog := rest } }) ∧
    (s.host.prog = ldbuf .salt bytes.toList ++ rest →
      Sys2Proof.core.run 16 s = .next
        { s with salt := bytes, host := { s.host with prog := rest } })

/-- 47_host_kdf_procedure.md R234, R241: when the core has reported an error the call ends with the
random fill, a wiped core, every buffer of the host overwritten with zero, a cleared STATUS and a
report of failure. The model's choices: the agents move in the default order (log 2), and the draws of
the fill are successive bytes of one stream (log 22). -/
def Obligations.CoreErrorFailsTheCall : Prop :=
  ∀ (s : State) (h : HostAgent), s.busy = false → s.sched = [] → s.err = true →
    nextAct s.host = some (.checkErr, h) →
    ∃ n t, Sys2Proof.core.run n s = .next t ∧ t.host.todo = [] ∧ t.host.prog = h.prog ∧
      t.host.call.result = .failure ∧
      t.host.call.key = randomFill h.call.key h.call.keyLength h.draws ∧
      t.host.call.passDigest = List.replicate h.call.passDigest.length 0 ∧
      t.host.call.countSalt = List.replicate h.call.countSalt.length 0 ∧
      t.host.call.out = List.replicate h.call.out.length 0 ∧
      t.cipher = .zero ∧ t.cdata = zeroWords ∧ t.pass = zeros 64 ∧ t.salt = zeros 64 ∧
      t.tmpout = zeros 32 ∧ t.out = zeros 32 ∧ busRead 0x0004 t = 0

/-- 47_host_kdf_procedure.md R242: a valid call, made while the core is idle without an error, ends
with success, the key of the reference function, a wiped core, the host's three buffers overwritten
with zero (R241) and a cleared STATUS. That the agents move in the fair default order is the model's
choice (log 2, 30). -/
def Obligations.DeriveKeyComputesTheKey : Prop :=
  ∀ (s : State) (password salt key : List Byte) (keyLength : Nat) (rounds : Word)
    (rest : List HostAct),
    s.busy = false → s.sched = [] → s.order = .fair → s.err = false → s.host.todo = [] →
    s.host.prog = .call password salt key keyLength rounds true :: rest →
    invalidCall password salt keyLength rounds true = false → key.length = keyLength →
    ∃ n t, Sys2Proof.core.run n s = .next t ∧ t.host.todo = [] ∧ t.host.prog = rest ∧
      t.host.call.result = .success ∧
      t.host.call.key = deriveKeyRef password salt key keyLength rounds ∧
      t.host.call.countSalt = List.replicate (salt.length + 4) 0 ∧
      t.host.call.out = List.replicate 32 0 ∧ t.host.call.passDigest = List.replicate 64 0 ∧
      t.cipher = .zero ∧ t.cdata = zeroWords ∧ t.pass = zeros 64 ∧ t.salt = zeros 64 ∧
      t.tmpout = zeros 32 ∧ t.out = zeros 32 ∧ t.rounds = rounds ∧ busRead 0x0004 t = 0

/-- 12_constant_rom.md R68: the check words of the tables. -/
def Obligations.RomCheckWords : Prop :=
  (pInit[0] = 0x243F6A88 ∧ pInit[17] = 0x8979FB1B) ∧
  (sInit[0][0] = 0xD1310BA6 ∧ sInit[0][255] = 0x6E85076A) ∧
  (sInit[1][0] = 0x4B7A70E9 ∧ sInit[2][0] = 0xE93D5A68) ∧
  (sInit[3][0] = 0x3A39CE37 ∧ sInit[3][255] = 0x3AC372E6) ∧
  (pInit.toList ++ (sInit.toList.map Vector.toList).flatten).foldl (· + ·) 0 = 0x6BBF03AC ∧
  (pInit.toList ++ (sInit.toList.map Vector.toList).flatten).foldl (· ^^^ ·) 0 = 0x6FFA520A

/-- 20_memory.md R98, 70_reset_and_hazards.md R312: with the fair default order every run is weakly
fair, and on a weakly fair run without a reset every running command completes (60_exceptions.md
R269). That the spec's open order is this one is the model's choice (log 2, 30). -/
def Obligations.FairDigestAgentLetsCommandsEnd : Prop :=
  (∀ s : State, s.Inv → s.order = .fair → weaklyFair s) ∧
  (∀ s : State, s.Inv → weaklyFair s → noReset s → s.busy = true →
    ∃ n t, Sys2Proof.core.run n s = .next t ∧ t.busy = false ∧ t.done = true)

/-- 20_memory.md R98: a hang of the digest agent is a hang of the core. When the agent never moves
(log 30) and no reset comes, the core stays in phase WAIT with BUSY = DWAIT = 1 for ever, whatever the
host does, and the command's state stays as it is. -/
def Obligations.SilentDigestAgentHangsTheCore : Prop :=
  ∀ s : State, s.phase = .wait → s.order = .silentDigest → noReset s → .digest ∉ s.sched →
    ∀ n, ∃ t, Sys2Proof.core.run n s = .next t ∧ t.phase = .wait ∧
      (busRead 0x0004 t).getLsbD 0 = true ∧ (busRead 0x0004 t).getLsbD 3 = true ∧
      t.dreq = s.dreq ∧ t.ret = s.ret ∧ t.cur = s.cur ∧ t.rlat = s.rlat ∧ t.rounds = s.rounds ∧
      t.roundcnt = s.roundcnt ∧ t.pass = s.pass ∧ t.salt = s.salt ∧ t.tmpout = s.tmpout ∧
      t.out = s.out ∧ t.cipher = s.cipher ∧ t.cdata = s.cdata
end

