-- ==== Sys2Proof/Laws/State.lean ====
section
/-! SUPPORT. One lemma per field per update of State: what each shared operation leaves in each
field. -/

namespace Sys2Proof.Machine

variable (s : State)

@[simp] theorem raiseError_cipher (code : ErrCode) : (raiseError code s).cipher = s.cipher := rfl
@[simp] theorem raiseError_cdata (code : ErrCode) : (raiseError code s).cdata = s.cdata := rfl
@[simp] theorem raiseError_pass (code : ErrCode) : (raiseError code s).pass = s.pass := rfl
@[simp] theorem raiseError_salt (code : ErrCode) : (raiseError code s).salt = s.salt := rfl
@[simp] theorem raiseError_tmpout (code : ErrCode) : (raiseError code s).tmpout = s.tmpout := rfl
@[simp] theorem raiseError_out (code : ErrCode) : (raiseError code s).out = s.out := rfl
@[simp] theorem raiseError_rounds (code : ErrCode) : (raiseError code s).rounds = s.rounds := rfl
@[simp] theorem raiseError_roundcnt (code : ErrCode) :
    (raiseError code s).roundcnt = s.roundcnt := rfl
@[simp] theorem raiseError_done (code : ErrCode) : (raiseError code s).done = s.done := rfl
@[simp] theorem raiseError_err (code : ErrCode) : (raiseError code s).err = true := rfl
@[simp] theorem raiseError_errcode (code : ErrCode) :
    (raiseError code s).errcode = if s.err then s.errcode else code := rfl
@[simp] theorem raiseError_doneie (code : ErrCode) : (raiseError code s).doneie = s.doneie := rfl
@[simp] theorem raiseError_errie (code : ErrCode) : (raiseError code s).errie = s.errie := rfl
@[simp] theorem raiseError_phase (code : ErrCode) : (raiseError code s).phase = s.phase := rfl
@[simp] theorem raiseError_cur (code : ErrCode) : (raiseError code s).cur = s.cur := rfl
@[simp] theorem raiseError_rlat (code : ErrCode) : (raiseError code s).rlat = s.rlat := rfl
@[simp] theorem raiseError_dreq (code : ErrCode) : (raiseError code s).dreq = s.dreq := rfl
@[simp] theorem raiseError_ret (code : ErrCode) : (raiseError code s).ret = s.ret := rfl
@[simp] theorem raiseError_host (code : ErrCode) : (raiseError code s).host = s.host := rfl
@[simp] theorem raiseError_sched (code : ErrCode) : (raiseError code s).sched = s.sched := rfl
@[simp] theorem raiseError_order (code : ErrCode) : (raiseError code s).order = s.order := rfl

@[simp] theorem writeStatus_cipher (w : Word) : (writeStatus w s).cipher = s.cipher := rfl
@[simp] theorem writeStatus_cdata (w : Word) : (writeStatus w s).cdata = s.cdata := rfl
@[simp] theorem writeStatus_pass (w : Word) : (writeStatus w s).pass = s.pass := rfl
@[simp] theorem writeStatus_salt (w : Word) : (writeStatus w s).salt = s.salt := rfl
@[simp] theorem writeStatus_tmpout (w : Word) : (writeStatus w s).tmpout = s.tmpout := rfl
@[simp] theorem writeStatus_out (w : Word) : (writeStatus w s).out = s.out := rfl
@[simp] theorem writeStatus_rounds (w : Word) : (writeStatus w s).rounds = s.rounds := rfl
@[simp] theorem writeStatus_roundcnt (w : Word) : (writeStatus w s).roundcnt = s.roundcnt := rfl
@[simp] theorem writeStatus_done (w : Word) :
    (writeStatus w s).done = (s.done && !w.getLsbD 1) := rfl
@[simp] theorem writeStatus_err (w : Word) : (writeStatus w s).err = (s.err && !w.getLsbD 2) := rfl
@[simp] theorem writeStatus_errcode (w : Word) :
    (writeStatus w s).errcode = if w.getLsbD 2 then .none else s.errcode := rfl
@[simp] theorem writeStatus_doneie (w : Word) : (writeStatus w s).doneie = s.doneie := rfl
@[simp] theorem writeStatus_errie (w : Word) : (writeStatus w s).errie = s.errie := rfl
@[simp] theorem writeStatus_phase (w : Word) : (writeStatus w s).phase = s.phase := rfl
@[simp] theorem writeStatus_cur (w : Word) : (writeStatus w s).cur = s.cur := rfl
@[simp] theorem writeStatus_rlat (w : Word) : (writeStatus w s).rlat = s.rlat := rfl
@[simp] theorem writeStatus_dreq (w : Word) : (writeStatus w s).dreq = s.dreq := rfl
@[simp] theorem writeStatus_ret (w : Word) : (writeStatus w s).ret = s.ret := rfl
@[simp] theorem writeStatus_host (w : Word) : (writeStatus w s).host = s.host := rfl
@[simp] theorem writeStatus_sched (w : Word) : (writeStatus w s).sched = s.sched := rfl
@[simp] theorem writeStatus_order (w : Word) : (writeStatus w s).order = s.order := rfl

@[simp] theorem writeInten_cipher (w : Word) : (writeInten w s).cipher = s.cipher := rfl
@[simp] theorem writeInten_cdata (w : Word) : (writeInten w s).cdata = s.cdata := rfl
@[simp] theorem writeInten_pass (w : Word) : (writeInten w s).pass = s.pass := rfl
@[simp] theorem writeInten_salt (w : Word) : (writeInten w s).salt = s.salt := rfl
@[simp] theorem writeInten_tmpout (w : Word) : (writeInten w s).tmpout = s.tmpout := rfl
@[simp] theorem writeInten_out (w : Word) : (writeInten w s).out = s.out := rfl
@[simp] theorem writeInten_rounds (w : Word) : (writeInten w s).rounds = s.rounds := rfl
@[simp] theorem writeInten_roundcnt (w : Word) : (writeInten w s).roundcnt = s.roundcnt := rfl
@[simp] theorem writeInten_done (w : Word) : (writeInten w s).done = s.done := rfl
@[simp] theorem writeInten_err (w : Word) : (writeInten w s).err = s.err := rfl
@[simp] theorem writeInten_errcode (w : Word) : (writeInten w s).errcode = s.errcode := rfl
@[simp] theorem writeInten_doneie (w : Word) : (writeInten w s).doneie = w.getLsbD 0 := rfl
@[simp] theorem writeInten_errie (w : Word) : (writeInten w s).errie = w.getLsbD 1 := rfl
@[simp] theorem writeInten_phase (w : Word) : (writeInten w s).phase = s.phase := rfl
@[simp] theorem writeInten_cur (w : Word) : (writeInten w s).cur = s.cur := rfl
@[simp] theorem writeInten_rlat (w : Word) : (writeInten w s).rlat = s.rlat := rfl
@[simp] theorem writeInten_dreq (w : Word) : (writeInten w s).dreq = s.dreq := rfl
@[simp] theorem writeInten_ret (w : Word) : (writeInten w s).ret = s.ret := rfl
@[simp] theorem writeInten_host (w : Word) : (writeInten w s).host = s.host := rfl
@[simp] theorem writeInten_sched (w : Word) : (writeInten w s).sched = s.sched := rfl
@[simp] theorem writeInten_order (w : Word) : (writeInten w s).order = s.order := rfl

@[simp] theorem complete_cipher : (complete s).cipher = s.cipher := rfl
@[simp] theorem complete_cdata : (complete s).cdata = s.cdata := rfl
@[simp] theorem complete_pass : (complete s).pass = s.pass := rfl
@[simp] theorem complete_salt : (complete s).salt = s.salt := rfl
@[simp] theorem complete_tmpout : (complete s).tmpout = s.tmpout := rfl
@[simp] theorem complete_out : (complete s).out = s.out := rfl
@[simp] theorem complete_rounds : (complete s).rounds = s.rounds := rfl
@[simp] theorem complete_roundcnt : (complete s).roundcnt = s.roundcnt := rfl
@[simp] theorem complete_done : (complete s).done = true := rfl
@[simp] theorem complete_err : (complete s).err = s.err := rfl
@[simp] theorem complete_errcode : (complete s).errcode = s.errcode := rfl
@[simp] theorem complete_doneie : (complete s).doneie = s.doneie := rfl
@[simp] theorem complete_errie : (complete s).errie = s.errie := rfl
@[simp] theorem complete_phase : (complete s).phase = .idle := rfl
@[simp] theorem complete_cur : (complete s).cur = s.cur := rfl
@[simp] theorem complete_rlat : (complete s).rlat = s.rlat := rfl
@[simp] theorem complete_dreq : (complete s).dreq = s.dreq := rfl
@[simp] theorem complete_ret : (complete s).ret = s.ret := rfl
@[simp] theorem complete_host : (complete s).host = s.host := rfl
@[simp] theorem complete_sched : (complete s).sched = s.sched := rfl
@[simp] theorem complete_order : (complete s).order = s.order := rfl

@[simp] theorem requestDigest_cipher : (requestDigest s).cipher = s.cipher := rfl
@[simp] theorem requestDigest_cdata : (requestDigest s).cdata = s.cdata := rfl
@[simp] theorem requestDigest_pass : (requestDigest s).pass = s.pass := rfl
@[simp] theorem requestDigest_salt : (requestDigest s).salt = s.salt := rfl
@[simp] theorem requestDigest_tmpout : (requestDigest s).tmpout = s.tmpout := rfl
@[simp] theorem requestDigest_out : (requestDigest s).out = s.out := rfl
@[simp] theorem requestDigest_rounds : (requestDigest s).rounds = s.rounds := rfl
@[simp] theorem requestDigest_roundcnt : (requestDigest s).roundcnt = s.roundcnt := rfl
@[simp] theorem requestDigest_done : (requestDigest s).done = s.done := rfl
@[simp] theorem requestDigest_err : (requestDigest s).err = s.err := rfl
@[simp] theorem requestDigest_errcode : (requestDigest s).errcode = s.errcode := rfl
@[simp] theorem requestDigest_doneie : (requestDigest s).doneie = s.doneie := rfl
@[simp] theorem requestDigest_errie : (requestDigest s).errie = s.errie := rfl
@[simp] theorem requestDigest_phase : (requestDigest s).phase = .wait := rfl
@[simp] theorem requestDigest_cur : (requestDigest s).cur = s.cur := rfl
@[simp] theorem requestDigest_rlat : (requestDigest s).rlat = s.rlat := rfl
@[simp] theorem requestDigest_dreq : (requestDigest s).dreq = some s.tmpout := rfl
@[simp] theorem requestDigest_ret : (requestDigest s).ret = .afterDigest := rfl
@[simp] theorem requestDigest_host : (requestDigest s).host = s.host := rfl
@[simp] theorem requestDigest_sched : (requestDigest s).sched = s.sched := rfl
@[simp] theorem requestDigest_order : (requestDigest s).order = s.order := rfl

@[simp] theorem wipeBuffers_cipher : (wipeBuffers s).cipher = .zero := rfl
@[simp] theorem wipeBuffers_cdata : (wipeBuffers s).cdata = zeroWords := rfl
@[simp] theorem wipeBuffers_pass : (wipeBuffers s).pass = zeros 64 := rfl
@[simp] theorem wipeBuffers_salt : (wipeBuffers s).salt = zeros 64 := rfl
@[simp] theorem wipeBuffers_tmpout : (wipeBuffers s).tmpout = zeros 32 := rfl
@[simp] theorem wipeBuffers_out : (wipeBuffers s).out = zeros 32 := rfl
@[simp] theorem wipeBuffers_rounds : (wipeBuffers s).rounds = s.rounds := rfl
@[simp] theorem wipeBuffers_roundcnt : (wipeBuffers s).roundcnt = 0 := rfl
@[simp] theorem wipeBuffers_done : (wipeBuffers s).done = s.done := rfl
@[simp] theorem wipeBuffers_err : (wipeBuffers s).err = s.err := rfl
@[simp] theorem wipeBuffers_errcode : (wipeBuffers s).errcode = s.errcode := rfl
@[simp] theorem wipeBuffers_doneie : (wipeBuffers s).doneie = s.doneie := rfl
@[simp] theorem wipeBuffers_errie : (wipeBuffers s).errie = s.errie := rfl
@[simp] theorem wipeBuffers_phase : (wipeBuffers s).phase = s.phase := rfl
@[simp] theorem wipeBuffers_cur : (wipeBuffers s).cur = s.cur := rfl
@[simp] theorem wipeBuffers_rlat : (wipeBuffers s).rlat = s.rlat := rfl
@[simp] theorem wipeBuffers_dreq : (wipeBuffers s).dreq = s.dreq := rfl
@[simp] theorem wipeBuffers_ret : (wipeBuffers s).ret = s.ret := rfl
@[simp] theorem wipeBuffers_host : (wipeBuffers s).host = s.host := rfl
@[simp] theorem wipeBuffers_sched : (wipeBuffers s).sched = s.sched := rfl
@[simp] theorem wipeBuffers_order : (wipeBuffers s).order = s.order := rfl

@[simp] theorem expensiveHash_cipher : (expensiveHash s).cipher = .zero := rfl
@[simp] theorem expensiveHash_cdata : (expensiveHash s).cdata = zeroWords := rfl
@[simp] theorem expensiveHash_pass : (expensiveHash s).pass = s.pass := rfl
@[simp] theorem expensiveHash_salt : (expensiveHash s).salt = s.salt := rfl
@[simp] theorem expensiveHash_tmpout :
    (expensiveHash s).tmpout =
      serialize (encryptPasses (hashSchedule s.pass s.salt) 64 4 (loadMagic s.cdata)) := rfl
@[simp] theorem expensiveHash_out : (expensiveHash s).out = s.out := rfl
@[simp] theorem expensiveHash_rounds : (expensiveHash s).rounds = s.rounds := rfl
@[simp] theorem expensiveHash_roundcnt : (expensiveHash s).roundcnt = s.roundcnt := rfl
@[simp] theorem expensiveHash_done : (expensiveHash s).done = s.done := rfl
@[simp] theorem expensiveHash_err : (expensiveHash s).err = s.err := rfl
@[simp] theorem expensiveHash_errcode : (expensiveHash s).errcode = s.errcode := rfl
@[simp] theorem expensiveHash_doneie : (expensiveHash s).doneie = s.doneie := rfl
@[simp] theorem expensiveHash_errie : (expensiveHash s).errie = s.errie := rfl
@[simp] theorem expensiveHash_phase : (expensiveHash s).phase = s.phase := rfl
@[simp] theorem expensiveHash_cur : (expensiveHash s).cur = s.cur := rfl
@[simp] theorem expensiveHash_rlat : (expensiveHash s).rlat = s.rlat := rfl
@[simp] theorem expensiveHash_dreq : (expensiveHash s).dreq = s.dreq := rfl
@[simp] theorem expensiveHash_ret : (expensiveHash s).ret = s.ret := rfl
@[simp] theorem expensiveHash_host : (expensiveHash s).host = s.host := rfl
@[simp] theorem expensiveHash_sched : (expensiveHash s).sched = s.sched := rfl
@[simp] theorem expensiveHash_order : (expensiveHash s).order = s.order := rfl

@[simp] theorem kdfFirstRound_cipher : (kdfFirstRound s).cipher = .zero := rfl
@[simp] theorem kdfFirstRound_cdata : (kdfFirstRound s).cdata = zeroWords := rfl
@[simp] theorem kdfFirstRound_pass : (kdfFirstRound s).pass = s.pass := rfl
@[simp] theorem kdfFirstRound_salt : (kdfFirstRound s).salt = s.salt := rfl
@[simp] theorem kdfFirstRound_tmpout : (kdfFirstRound s).tmpout = (expensiveHash s).tmpout := rfl
@[simp] theorem kdfFirstRound_out : (kdfFirstRound s).out = (expensiveHash s).tmpout := rfl
@[simp] theorem kdfFirstRound_rounds : (kdfFirstRound s).rounds = s.rounds := rfl
@[simp] theorem kdfFirstRound_roundcnt : (kdfFirstRound s).roundcnt = 1 := rfl
@[simp] theorem kdfFirstRound_done : (kdfFirstRound s).done = s.done := rfl
@[simp] theorem kdfFirstRound_err : (kdfFirstRound s).err = s.err := rfl
@[simp] theorem kdfFirstRound_errcode : (kdfFirstRound s).errcode = s.errcode := rfl
@[simp] theorem kdfFirstRound_doneie : (kdfFirstRound s).doneie = s.doneie := rfl
@[simp] theorem kdfFirstRound_errie : (kdfFirstRound s).errie = s.errie := rfl
@[simp] theorem kdfFirstRound_phase : (kdfFirstRound s).phase = s.phase := rfl
@[simp] theorem kdfFirstRound_cur : (kdfFirstRound s).cur = s.cur := rfl
@[simp] theorem kdfFirstRound_rlat : (kdfFirstRound s).rlat = s.rlat := rfl
@[simp] theorem kdfFirstRound_dreq : (kdfFirstRound s).dreq = s.dreq := rfl
@[simp] theorem kdfFirstRound_ret : (kdfFirstRound s).ret = s.ret := rfl
@[simp] theorem kdfFirstRound_host : (kdfFirstRound s).host = s.host := rfl
@[simp] theorem kdfFirstRound_sched : (kdfFirstRound s).sched = s.sched := rfl
@[simp] theorem kdfFirstRound_order : (kdfFirstRound s).order = s.order := rfl

@[simp] theorem kdfNextRound_cipher : (kdfNextRound s).cipher = .zero := rfl
@[simp] theorem kdfNextRound_cdata : (kdfNextRound s).cdata = zeroWords := rfl
@[simp] theorem kdfNextRound_pass : (kdfNextRound s).pass = s.pass := rfl
@[simp] theorem kdfNextRound_salt : (kdfNextRound s).salt = s.salt := rfl
@[simp] theorem kdfNextRound_tmpout : (kdfNextRound s).tmpout = (expensiveHash s).tmpout := rfl
@[simp] theorem kdfNextRound_out :
    (kdfNextRound s).out = xorBytes s.out (expensiveHash s).tmpout := rfl
@[simp] theorem kdfNextRound_rounds : (kdfNextRound s).rounds = s.rounds := rfl
@[simp] theorem kdfNextRound_roundcnt : (kdfNextRound s).roundcnt = s.roundcnt + 1 := rfl
@[simp] theorem kdfNextRound_done : (kdfNextRound s).done = s.done := rfl
@[simp] theorem kdfNextRound_err : (kdfNextRound s).err = s.err := rfl
@[simp] theorem kdfNextRound_errcode : (kdfNextRound s).errcode = s.errcode := rfl
@[simp] theorem kdfNextRound_doneie : (kdfNextRound s).doneie = s.doneie := rfl
@[simp] theorem kdfNextRound_errie : (kdfNextRound s).errie = s.errie := rfl
@[simp] theorem kdfNextRound_phase : (kdfNextRound s).phase = s.phase := rfl
@[simp] theorem kdfNextRound_cur : (kdfNextRound s).cur = s.cur := rfl
@[simp] theorem kdfNextRound_rlat : (kdfNextRound s).rlat = s.rlat := rfl
@[simp] theorem kdfNextRound_dreq : (kdfNextRound s).dreq = s.dreq := rfl
@[simp] theorem kdfNextRound_ret : (kdfNextRound s).ret = s.ret := rfl
@[simp] theorem kdfNextRound_host : (kdfNextRound s).host = s.host := rfl
@[simp] theorem kdfNextRound_sched : (kdfNextRound s).sched = s.sched := rfl
@[simp] theorem kdfNextRound_order : (kdfNextRound s).order = s.order := rfl

@[simp] theorem resetCore_cipher : (resetCore s).cipher = State.reset.cipher := rfl
@[simp] theorem resetCore_cdata : (resetCore s).cdata = State.reset.cdata := rfl
@[simp] theorem resetCore_pass : (resetCore s).pass = State.reset.pass := rfl
@[simp] theorem resetCore_salt : (resetCore s).salt = State.reset.salt := rfl
@[simp] theorem resetCore_tmpout : (resetCore s).tmpout = State.reset.tmpout := rfl
@[simp] theorem resetCore_out : (resetCore s).out = State.reset.out := rfl
@[simp] theorem resetCore_rounds : (resetCore s).rounds = State.reset.rounds := rfl
@[simp] theorem resetCore_roundcnt : (resetCore s).roundcnt = State.reset.roundcnt := rfl
@[simp] theorem resetCore_done : (resetCore s).done = State.reset.done := rfl
@[simp] theorem resetCore_err : (resetCore s).err = State.reset.err := rfl
@[simp] theorem resetCore_errcode : (resetCore s).errcode = State.reset.errcode := rfl
@[simp] theorem resetCore_doneie : (resetCore s).doneie = State.reset.doneie := rfl
@[simp] theorem resetCore_errie : (resetCore s).errie = State.reset.errie := rfl
@[simp] theorem resetCore_phase : (resetCore s).phase = State.reset.phase := rfl
@[simp] theorem resetCore_cur : (resetCore s).cur = State.reset.cur := rfl
@[simp] theorem resetCore_rlat : (resetCore s).rlat = State.reset.rlat := rfl
@[simp] theorem resetCore_dreq : (resetCore s).dreq = State.reset.dreq := rfl
@[simp] theorem resetCore_ret : (resetCore s).ret = State.reset.ret := rfl
@[simp] theorem resetCore_host : (resetCore s).host = s.host := rfl
@[simp] theorem resetCore_sched : (resetCore s).sched = s.sched := rfl
@[simp] theorem resetCore_order : (resetCore s).order = s.order := rfl

@[simp] theorem accept_cipher (i : Instr) (w : Word) : (accept i w s).cipher = s.cipher := by
  unfold accept; split <;> rfl
@[simp] theorem accept_cdata (i : Instr) (w : Word) : (accept i w s).cdata = s.cdata := by
  unfold accept; split <;> rfl
@[simp] theorem accept_pass (i : Instr) (w : Word) : (accept i w s).pass = s.pass := by
  unfold accept; split <;> rfl
@[simp] theorem accept_salt (i : Instr) (w : Word) : (accept i w s).salt = s.salt := by
  unfold accept; split <;> rfl
@[simp] theorem accept_tmpout (i : Instr) (w : Word) : (accept i w s).tmpout = s.tmpout := by
  unfold accept; split <;> rfl
@[simp] theorem accept_out (i : Instr) (w : Word) : (accept i w s).out = s.out := by
  unfold accept; split <;> rfl
@[simp] theorem accept_rounds (i : Instr) (w : Word) : (accept i w s).rounds = s.rounds := by
  unfold accept; split <;> rfl
@[simp] theorem accept_roundcnt (i : Instr) (w : Word) :
    (accept i w s).roundcnt = if i = .kdfblk then 0 else s.roundcnt := by
  unfold accept; split <;> rfl
@[simp] theorem accept_done (i : Instr) (w : Word) : (accept i w s).done = false := by
  unfold accept; split <;> rfl
@[simp] theorem accept_err (i : Instr) (w : Word) : (accept i w s).err = s.err := by
  unfold accept; split <;> rfl
@[simp] theorem accept_errcode (i : Instr) (w : Word) : (accept i w s).errcode = s.errcode := by
  unfold accept; split <;> rfl
@[simp] theorem accept_doneie (i : Instr) (w : Word) : (accept i w s).doneie = s.doneie := by
  unfold accept; split <;> rfl
@[simp] theorem accept_errie (i : Instr) (w : Word) : (accept i w s).errie = s.errie := by
  unfold accept; split <;> rfl
@[simp] theorem accept_phase (i : Instr) (w : Word) : (accept i w s).phase = .run := by
  unfold accept; split <;> rfl
@[simp] theorem accept_cur (i : Instr) (w : Word) : (accept i w s).cur = w := by
  unfold accept; split <;> rfl
@[simp] theorem accept_rlat (i : Instr) (w : Word) :
    (accept i w s).rlat = if i = .kdfblk then s.rounds else s.rlat := by
  unfold accept; split <;> rfl
@[simp] theorem accept_dreq (i : Instr) (w : Word) : (accept i w s).dreq = s.dreq := by
  unfold accept; split <;> rfl
@[simp] theorem accept_ret (i : Instr) (w : Word) : (accept i w s).ret = .top := by
  unfold accept; split <;> rfl
@[simp] theorem accept_host (i : Instr) (w : Word) : (accept i w s).host = s.host := by
  unfold accept; split <;> rfl
@[simp] theorem accept_sched (i : Instr) (w : Word) : (accept i w s).sched = s.sched := by
  unfold accept; split <;> rfl
@[simp] theorem accept_order (i : Instr) (w : Word) : (accept i w s).order = s.order := by
  unfold accept; split <;> rfl

end Sys2Proof.Machine
end

