-- ==== Sys2Proof/Laws/Ops.lean ====
section
/-! SUPPORT. One lemma per shared operation: everything it can do, for later proofs to cite instead of
unfolding it. -/

namespace Sys2Proof.Machine

/-- BUSY = 0 is phase IDLE (10_state.md R35). -/
theorem busy_eq_false_iff (s : State) : s.busy = false ↔ s.phase = .idle := by
  unfold State.busy; cases s.phase <;> simp

/-- BUSY = 1 is phase RUN or WAIT (10_state.md R35). -/
theorem busy_eq_true_iff (s : State) : s.busy = true ↔ s.phase = .run ∨ s.phase = .wait := by
  unfold State.busy; cases s.phase <;> simp

/-- DWAIT = 1 is phase WAIT (10_state.md R35). -/
theorem dwait_eq_true_iff (s : State) : s.dwait = true ↔ s.phase = .wait := by
  unfold State.dwait; cases s.phase <;> simp

/-- BUSY depends on the phase alone. -/
theorem busy_congr {s t : State} (h : s.phase = t.phase) : s.busy = t.busy := by
  unfold State.busy; rw [h]

/-- A submission raises an error or accepts a command (60_exceptions.md R260). -/
theorem submit_cases (w : Word) (s : State) :
    (∃ code, code ≠ ErrCode.none ∧ submit w s = raiseError code s) ∨
    (∃ i, s.busy = false ∧ decode w = .ok i ∧ (i = .kdfblk → s.rounds ≠ 0) ∧
      submit w s = accept i w s) := by
  unfold submit
  split
  · exact .inl ⟨.busy, by decide, rfl⟩
  · rename_i hb
    split
    · rename_i e _
      exact .inl ⟨errCodeOf e, by cases e <;> decide, rfl⟩
    · rename_i i hd
      split
      · exact .inl ⟨.badRounds, by decide, rfl⟩
      · rename_i hk
        exact .inr ⟨i, by simpa using hb, hd, fun hi hr => hk ⟨hi, hr⟩, rfl⟩

/-- What a bus write can do (20_memory.md R76): nothing, raise an error, clear STATUS bits, write
INTEN, accept a command, or, while the core is idle, write ROUNDS or a data window. -/
inductive WriteEffect (w : Word) (s : State) : State → Prop where
  | same : WriteEffect w s s
  | error (code : ErrCode) (h : code ≠ .none) : WriteEffect w s (raiseError code s)
  | status : WriteEffect w s (writeStatus w s)
  | inten : WriteEffect w s (writeInten w s)
  | accept (i : Instr) (idle : s.busy = false) (dec : decode w = .ok i)
      (rounds : i = .kdfblk → s.rounds ≠ 0) : WriteEffect w s (accept i w s)
  | data (idle : s.busy = false) (rounds : Word) (pass salt : Vector Byte 64)
      (cdata : Vector Word 8) (cipher : CipherState) :
      WriteEffect w s { s with rounds := rounds, pass := pass, salt := salt, cdata := cdata
                               cipher := cipher }

/-- A write that is accepted only while idle has one of two effects (20_memory.md R76). -/
theorem writeIdle_effect (w : Word) (s : State) (rounds : Word) (pass salt : Vector Byte 64)
    (cdata : Vector Word 8) (cipher : CipherState) :
    WriteEffect w s (writeIdle { s with rounds := rounds, pass := pass, salt := salt
                                        cdata := cdata, cipher := cipher } s) := by
  unfold writeIdle
  split
  · exact .error .busy (by decide)
  · rename_i hb
    exact .data (by simpa using hb) rounds pass salt cdata cipher

/-- Every bus write has one of these effects. -/
theorem busWrite_effect (off : BitVec 13) (w : Word) (s : State) :
    WriteEffect w s (busWrite off w s) := by
  unfold busWrite writeReg
  cases regOf off with
  | id => exact .same
  | roundcnt => exact .same
  | tmpout k => exact .same
  | out k => exact .same
  | reserved => exact .same
  | status => exact .status
  | inten => exact .inten
  | cmd =>
      rcases submit_cases w s with ⟨code, hc, e⟩ | ⟨i, hb, hd, hk, e⟩ <;> dsimp only <;> rw [e]
      · exact .error code hc
      · exact .accept i hb hd hk
  | rounds => exact writeIdle_effect w s _ s.pass s.salt s.cdata s.cipher
  | pass k => exact writeIdle_effect w s s.rounds _ s.salt s.cdata s.cipher
  | salt k => exact writeIdle_effect w s s.rounds s.pass _ s.cdata s.cipher
  | cdata k => exact writeIdle_effect w s s.rounds s.pass s.salt _ s.cipher
  | p i => exact writeIdle_effect w s s.rounds s.pass s.salt s.cdata _
  | s t k => exact writeIdle_effect w s s.rounds s.pass s.salt s.cdata _

/-- A host step changes the host agent alone, or is one bus write (20_memory.md R78, R84). -/
theorem hostStep_cases (s : State) :
    ∃ h : HostAgent, hostStep s = { s with host := h } ∨
      ∃ off w, hostStep s = busWrite off w { s with host := h } := by
  unfold hostStep
  split
  · rename_i a h _
    cases a with
    | wr off w => exact ⟨h, .inr ⟨off, w, rfl⟩⟩
    | waitIdle =>
        unfold hostAct; dsimp only; split
        · exact ⟨s.host, .inl rfl⟩
        · exact ⟨h, .inl rfl⟩
    | waitIrq =>
        unfold hostAct; dsimp only; split
        · exact ⟨h, .inl rfl⟩
        · exact ⟨s.host, .inl rfl⟩
    | rd off => exact ⟨_, .inl rfl⟩
    | call password salt key keyLength rounds canAlloc => exact ⟨_, .inl rfl⟩
    | startBlock => exact ⟨_, .inl rfl⟩
    | checkErr => exact ⟨_, .inl rfl⟩
    | readOut k => exact ⟨_, .inl rfl⟩
    | assembleBlock => exact ⟨_, .inl rfl⟩
    | report success => exact ⟨_, .inl rfl⟩
  · exact ⟨s.host, .inl rfl⟩

/-- A host turn during reset leaves the core at its reset state (70_reset_and_hazards.md R300). -/
theorem resetHostStep_core (s : State) :
    ∃ h : HostAgent, resetHostStep s = { resetCore s with host := h } := by
  unfold resetHostStep
  dsimp only
  split
  · rename_i a h _
    cases a with
    | waitIdle =>
        unfold hostAct; dsimp only; split
        · exact ⟨s.host, rfl⟩
        · exact ⟨h, rfl⟩
    | waitIrq =>
        unfold hostAct; dsimp only; split
        · exact ⟨h, rfl⟩
        · exact ⟨s.host, rfl⟩
    | wr off w => exact ⟨_, rfl⟩
    | rd off => exact ⟨_, rfl⟩
    | call password salt key keyLength rounds canAlloc => exact ⟨_, rfl⟩
    | startBlock => exact ⟨_, rfl⟩
    | checkErr => exact ⟨_, rfl⟩
    | readOut k => exact ⟨_, rfl⟩
    | assembleBlock => exact ⟨_, rfl⟩
    | report success => exact ⟨_, rfl⟩
  · exact ⟨s.host, rfl⟩

/-- The digest agent answers the outstanding request or does nothing (42_cmd_hash_kdf.md R210 (c)). -/
theorem digestStep_cases (s : State) :
    (s.phase = .wait ∧ ∃ m, s.dreq = some m ∧
      digestStep s = { s with salt := Config.digest m.toList, dreq := none, phase := .run }) ∨
    ((s.phase = .wait → s.dreq = none) ∧ digestStep s = s) := by
  unfold digestStep
  split
  · rename_i m hp hd
    exact .inl ⟨hp, m, hd, rfl⟩
  · rename_i h
    refine .inr ⟨fun hp => ?_, rfl⟩
    cases hd : s.dreq with
    | none => rfl
    | some m => exact (h m hp hd).elim

/-- A round of KDFBLK ends with a request or completes (42_cmd_hash_kdf.md R208). -/
theorem kdfLoop_cases (s : State) :
    (s.roundcnt < s.rlat ∧ kdfLoop s = requestDigest s) ∨
    (¬ s.roundcnt < s.rlat ∧ kdfLoop s = complete s) := by
  unfold kdfLoop
  split
  · rename_i h; exact .inl ⟨h, rfl⟩
  · rename_i h; exact .inr ⟨h, rfl⟩

/-- A core turn that goes on did nothing outside phase RUN, or ran the decoded command
(42_cmd_hash_kdf.md R210). -/
theorem coreStep_cases {s t : State} (h : coreStep s = .next t) :
    (s.phase ≠ .run ∧ t = s) ∨
    (s.phase = .run ∧ ∃ i, decode s.cur = .ok i ∧ exec i s = .next t) := by
  unfold coreStep at h
  split at h
  · rename_i hp
    split at h
    · rename_i i hi
      exact .inr ⟨hp, i, hi, h⟩
    · cases h
  · rename_i hp; cases h; exact .inl ⟨by simp [hp], rfl⟩
  · rename_i hp; cases h; exact .inl ⟨by simp [hp], rfl⟩

/-- A step is one turn, taken off the schedule or the default one (20_memory.md R85). -/
theorem step_turn (s : State) : ∃ turn sched, step s = turnStep turn { s with sched := sched } := by
  unfold step
  split
  · rename_i t rest _; exact ⟨t, rest, rfl⟩
  · exact ⟨defaultTurn s, s.sched, rfl⟩

/-- With no turn scheduled the core moves in phase RUN (log 2). -/
theorem defaultTurn_run {s : State} (h : s.phase = .run) : defaultTurn s = .core := by
  unfold defaultTurn; rw [h]

/-- With no turn scheduled and the fair order the digest agent moves in phase WAIT (log 2, 30). -/
theorem defaultTurn_wait_fair {s : State} (h : s.phase = .wait) (hs : s.order = .fair) :
    defaultTurn s = .digest := by
  unfold defaultTurn; rw [h]; dsimp only; rw [hs]

/-- With no turn scheduled and a silent digest agent the host moves in phase WAIT (log 30). -/
theorem defaultTurn_wait_silent {s : State} (h : s.phase = .wait) (hs : s.order = .silentDigest) :
    defaultTurn s = .host := by
  unfold defaultTurn; rw [h]; dsimp only; rw [hs]

/-- With no turn scheduled the host moves while the core is idle (log 2). -/
theorem defaultTurn_idle {s : State} (h : s.phase = .idle) : defaultTurn s = .host := by
  unfold defaultTurn; rw [h]

/-- A byte of `OUT ^ TMPOUT` (42_cmd_hash_kdf.md R204). -/
@[simp] theorem xorBytes_getElem (a b : Vector Byte 32) (i : Nat) (h : i < 32) :
    (xorBytes a b)[i] = a[i] ^^^ b[i] := by
  simp [xorBytes]

/-- A byte of the serialised words (40_blockmixer_primitives.md R150). -/
@[simp] theorem serialize_getElem (d : Vector Word 8) (i : Nat) (h : i < 32) :
    (serialize d)[i] = d[i / 4].extractLsb' (8 * (i % 4)) 8 := by
  simp [serialize]

/-- A word is made of its four bytes. -/
theorem wordOfBytes_extract (w : Word) :
    wordOfBytes (w.extractLsb' 0 8) (w.extractLsb' 8 8) (w.extractLsb' 16 8) (w.extractLsb' 24 8) =
      w := by
  refine BitVec.eq_of_getLsbD_eq fun i hi => ?_
  change BitVec.getLsbD (w := 8 + 8 + 8 + 8) (_ ++ _ ++ _ ++ _) i = _
  simp only [BitVec.getLsbD_append, BitVec.getLsbD_extractLsb']
  split
  · rename_i h; simp [h]
  · split
    · rename_i h; simp [h, show 8 + (i - 8) = i by omega]
    · split
      · rename_i h; simp [h, show 16 + (i - 8 - 8) = i by omega]
      · simp [show 24 + (i - 8 - 8 - 8) = i by omega, show i - 8 - 8 - 8 < 8 by omega]

/-- The bytes of the lane just written (20_memory.md R73). -/
theorem setLane_getElem {n : Nat} (buf : Vector Byte n) (k : Nat) (w : Word) (h : 4 * k + 3 < n)
    (b : Nat) (hb : b < 4) : (setLane buf k w h)[4 * k + b] = w.extractLsb' (8 * b) 8 := by
  have : b = 0 ∨ b = 1 ∨ b = 2 ∨ b = 3 := by omega
  rcases this with rfl | rfl | rfl | rfl <;> simp [setLane]

/-- The lane just written reads back (20_memory.md R73). -/
theorem getLane_setLane_self {n : Nat} (buf : Vector Byte n) (k : Nat) (w : Word)
    (h : 4 * k + 3 < n) : getLane (setLane buf k w h) k h = w := by
  have e := fun b hb => setLane_getElem buf k w h b hb
  unfold getLane
  rw [e 1 (by omega), e 2 (by omega), e 3 (by omega), show (setLane buf k w h)[4 * k] = _ from
    e 0 (by omega)]
  exact wordOfBytes_extract w

/-- The other lanes keep their value (20_memory.md R73). -/
theorem getLane_setLane_other {n : Nat} (buf : Vector Byte n) (j k : Nat) (w : Word)
    (hj : 4 * j + 3 < n) (hk : 4 * k + 3 < n) (hne : j ≠ k) :
    getLane (setLane buf k w hk) j hj = getLane buf j hj := by
  have ne : ∀ a b : Nat, a < 4 → b < 4 → ¬ 4 * k + a = 4 * j + b := by omega
  have ne0 : ∀ b : Nat, b < 4 → ¬ 4 * k = 4 * j + b := by omega
  have ne0' : ∀ a : Nat, a < 4 → ¬ 4 * k + a = 4 * j := by omega
  simp only [getLane, setLane, Vector.getElem_set, ne 1 1, ne 1 2, ne 1 3, ne 2 1, ne 2 2, ne 2 3,
    ne 3 1, ne 3 2, ne 3 3, ne0 1, ne0 2, ne0 3, ne0' 1, ne0' 2, ne0' 3,
    show ¬ 4 * k = 4 * j by omega, if_false, Nat.reduceLT]

end Sys2Proof.Machine
end

