-- ==== Sys2Proof/Laws/PerInstr.lean ====
section
/-! SUPPORT. The family of laws made per command: OpcodeRow, that the word of a well-formed command
lies in its row of the opcode table (30_encoding.md R118). -/

namespace Sys2Proof.Laws.OpcodeRow

open Sys2Proof

/-- The mask of a command's row (R118). -/
def mask : Instr → Word
  | .nop => 0xFFFFFFFF
  | .init => 0xFFFFFFFF
  | .expand _ _ => 0xFFFF00FF
  | .expand0 _ => 0xFFFFF0FF
  | .loadmagic => 0xFFFFFFFF
  | .encrypt _ _ => 0xF800FFFF
  | .serialize => 0xFFFFFFFF
  | .bhash => 0xFFFFFFFF
  | .accload => 0xFFFFFFFF
  | .accxor => 0xFFFFFFFF
  | .rehash => 0xFFFFFFFF
  | .kdfblk => 0xFFFFFFFF
  | .wipe => 0xFFFFFFFF

/-- The match of a command's row (R118). -/
def pattern : Instr → Word
  | .nop => 0x00000000
  | .init => 0x00000001
  | .expand _ _ => 0x00000002
  | .expand0 _ => 0x00000003
  | .loadmagic => 0x00000004
  | .encrypt _ _ => 0x00000005
  | .serialize => 0x00000006
  | .bhash => 0x00000007
  | .accload => 0x00000008
  | .accxor => 0x00000009
  | .rehash => 0x0000000A
  | .kdfblk => 0x0000000B
  | .wipe => 0x0000000C

/-- The word of a well-formed command lies in its row of the table (R118). -/
def Statement (i : Instr) : Prop := i.WellFormed → encode i &&& mask i = pattern i

theorem nop : Statement .nop := fun _ => by decide
theorem init : Statement .init := fun _ => by decide
theorem expand (data key : Sel) : Statement (.expand data key) := fun _ => by
  cases data <;> cases key <;> decide
theorem expand0 (key : Sel) : Statement (.expand0 key) := fun _ => by cases key <;> decide
theorem loadmagic : Statement .loadmagic := fun _ => by decide

/-- N and M lie outside the mask of ENCRYPT's row. -/
theorem encrypt_fields_masked (m : BitVec 3) (n : BitVec 8) :
    packFields m n 0 0 0x05 &&& 0xF800FFFF = 0x00000005 := by
  revert m n; decide +kernel

theorem encrypt (n m : Nat) : Statement (.encrypt n m) := fun _ => encrypt_fields_masked _ _
theorem serialize : Statement .serialize := fun _ => by decide
theorem bhash : Statement .bhash := fun _ => by decide
theorem accload : Statement .accload := fun _ => by decide
theorem accxor : Statement .accxor := fun _ => by decide
theorem rehash : Statement .rehash := fun _ => by decide
theorem kdfblk : Statement .kdfblk := fun _ => by decide
theorem wipe : Statement .wipe := fun _ => by decide

end Sys2Proof.Laws.OpcodeRow
end

