-- ==== Sys2Proof/Machine/Asm.lean ====
section
/-! DEFINITION. The assembler syntax of 30_encoding.md R122 and R123: one line to the host actions it
stands for (assumption log 29). It is the host's tool and defines no core behaviour. -/

namespace Sys2Proof.Machine

/-- Blanks may stand around every token. -/
def isBlank (c : Char) : Bool := c = ' ' || c = '\t'

/-- A line without its comment (`;` to the end) and with capitals only (R122: case-insensitive). -/
def asmChars (line : String) : List Char :=
  (line.toList.takeWhile fun c => c ≠ ';').map Char.toUpper

/-- Without blanks at both ends. -/
def trimBlanks (cs : List Char) : List Char :=
  ((cs.dropWhile isBlank).reverse.dropWhile isBlank).reverse

/-- The parts between the commas. -/
def splitCommas : List Char → List (List Char)
  | [] => [[]]
  | c :: cs =>
      match splitCommas cs with
      | [] => [[c]]
      | part :: parts => if c = ',' then [] :: part :: parts else (c :: part) :: parts

/-- The first word of a line and its comma-separated operands. -/
def splitLine (cs : List Char) : List Char × List (List Char) :=
  let cs := trimBlanks cs
  let rest := trimBlanks (cs.dropWhile fun c => !isBlank c)
  (cs.takeWhile fun c => !isBlank c,
    if rest.isEmpty then [] else (splitCommas rest).map trimBlanks)

/-- The value of a digit in capitals. -/
def digitOf (c : Char) : Option Nat :=
  if '0' ≤ c ∧ c ≤ '9' then some (c.toNat - '0'.toNat)
  else if 'A' ≤ c ∧ c ≤ 'F' then some (c.toNat - 'A'.toNat + 10)
  else none

/-- Digits in base `base`, most significant first. -/
def digitsOf (base : Nat) : List Char → Nat → Option Nat
  | [], acc => some acc
  | c :: cs, acc =>
      match digitOf c with
      | some d => if d < base then digitsOf base cs (acc * base + d) else none
      | none => none

/-- A number in decimal or as `0x` hex (R122). -/
def numberOf : List Char → Option Nat
  | [] => none
  | ['0', 'X'] => none
  | '0' :: 'X' :: cs => digitsOf 16 cs 0
  | cs => digitsOf 10 cs 0

/-- `PASS` or `SALT` (R122). -/
def selOfName (cs : List Char) : Option Sel :=
  if cs = "PASS".toList then some .pass else if cs = "SALT".toList then some .salt else none

/-- The command of a mnemonic and its operands (R122); operands out of range are an error. -/
def commandOf (mnemonic : List Char) (ops : List (List Char)) : Option Instr :=
  if mnemonic = "EXPAND".toList then
    match ops with
    | [d, k] => do return .expand (← selOfName d) (← selOfName k)
    | _ => none
  else if mnemonic = "EXPAND0".toList then
    match ops with
    | [k] => do return .expand0 (← selOfName k)
    | _ => none
  else if mnemonic = "ENCRYPT".toList then
    match ops with
    | [n, m] => do
        let i : Instr := .encrypt (← numberOf n) (← numberOf m)
        if i.wf then return i else none
    | _ => none
  else if ops ≠ [] then none
  else if mnemonic = "NOP".toList then some .nop
  else if mnemonic = "INIT".toList then some .init
  else if mnemonic = "LOADMAGIC".toList then some .loadmagic
  else if mnemonic = "SERIALIZE".toList then some .serialize
  else if mnemonic = "BHASH".toList then some .bhash
  else if mnemonic = "ACCLOAD".toList then some .accload
  else if mnemonic = "ACCXOR".toList then some .accxor
  else if mnemonic = "REHASH".toList then some .rehash
  else if mnemonic = "KDFBLK".toList then some .kdfblk
  else if mnemonic = "WIPE".toList then some .wipe
  else none

/-- The name and the index of `NAME` or `NAME[k]`. -/
def indexedName (cs : List Char) : Option (List Char × Option Nat) :=
  match cs.dropWhile fun c => c ≠ '[' with
  | [] => some (cs, none)
  | _ :: rest =>
      if rest.getLast? = some ']' then do
        return (cs.takeWhile fun c => c ≠ '[', some (← numberOf rest.dropLast))
      else none

/-- Word `k` of a window of `n` words from offset `base` (20_memory.md R72). -/
def windowWord (base n k : Nat) : Option (BitVec 13) :=
  if k < n then some (BitVec.ofNat 13 (base + 4 * k)) else none

/-- `offset(reg)` of R123: a register name, `WIN[k]`, or an offset as a number. -/
def offsetOfName (cs : List Char) : Option (BitVec 13) :=
  match indexedName cs with
  | some (name, some k) =>
      if name = "PASS".toList then windowWord 0x0100 16 k
      else if name = "SALT".toList then windowWord 0x0140 16 k
      else if name = "TMPOUT".toList then windowWord 0x0180 8 k
      else if name = "OUT".toList then windowWord 0x01A0 8 k
      else if name = "CDATA".toList then windowWord 0x01C0 8 k
      else if name = "P".toList then windowWord 0x0200 18 k
      else if name = "S0".toList then windowWord 0x0400 256 k
      else if name = "S1".toList then windowWord 0x0800 256 k
      else if name = "S2".toList then windowWord 0x0C00 256 k
      else if name = "S3".toList then windowWord 0x1000 256 k
      else none
  | some (name, none) =>
      if name = "ID".toList then some 0x0000
      else if name = "STATUS".toList then some 0x0004
      else if name = "CMD".toList then some 0x0008
      else if name = "ROUNDS".toList then some 0x000C
      else if name = "ROUNDCNT".toList then some 0x0010
      else if name = "INTEN".toList then some 0x0014
      else
        match numberOf name with
        | some a => if a < 0x2000 then some (BitVec.ofNat 13 a) else none
        | none => none
  | none => none

/-- Pairs of hexadecimal digits, byte 0 first (00_scope.md R9). -/
def hexBytes : List Char → Option (List Byte)
  | [] => some []
  | [_] => none
  | a :: b :: cs => do
      let hi ← digitOf a
      let lo ← digitOf b
      return BitVec.ofNat 8 (16 * hi + lo) :: (← hexBytes cs)

/-- One word of a `WR` line. -/
def wordOfNumber (cs : List Char) : Option Word :=
  match numberOf cs with
  | some n => if n < 2 ^ 32 then some (BitVec.ofNat 32 n) else none
  | none => none

/-- A pseudo-instruction other than `DO` (R123), or a command line (R122). -/
def asmTokens (mnemonic : List Char) (ops : List (List Char)) : Option (List HostAct) :=
  if mnemonic = "WR".toList then
    match ops with
    | [r, v] => do return [.wr (← offsetOfName r) (← wordOfNumber v)]
    | _ => none
  else if mnemonic = "RD".toList then
    match ops with
    | [r] => do return [.rd (← offsetOfName r)]
    | _ => none
  else if mnemonic = "LDBUF".toList then
    match ops with
    | [b, h] => do
        let bytes ← hexBytes h
        if bytes.length = 64 then return ldbuf (← selOfName b) bytes else none
    | _ => none
  else if ops = [] ∧ mnemonic = "WAIT".toList then some [.waitIdle]
  else if ops = [] ∧ mnemonic = "CLRST".toList then some clrst
  else if ops = [] ∧ mnemonic = "ENC64".toList then some enc64
  else if ops = [] ∧ mnemonic = "XHASH".toList then some xhash
  else (commandOf mnemonic ops).map cmdLine

/-- One line of assembler text to the host actions it stands for: none for a line that is no
command, the empty list for a blank or comment line. `DO` takes a command and waits (R123). -/
def assembleLine (line : String) : Option (List HostAct) :=
  let cs := trimBlanks (asmChars line)
  if cs = [] then some []
  else
    let first := (splitLine cs).1
    if first = "DO".toList then
      let parts := splitLine (cs.drop 2)
      (commandOf parts.1 parts.2).map doCmd
    else asmTokens first (splitLine cs).2

end Sys2Proof.Machine
end

