-- ==== Sys2Proof/Tests/Slice0.lean ====
section
/-! SUPPORT. The model's own tests: the smoke test of WellFormed, words written out from the spec's
encodings, values of 95_test_vectors.md, and a witness for every statement with hypotheses. -/

namespace Sys2Proof.Tests

open Sys2Proof Sys2Proof.Machine

/-! ## WellFormed: an ill-formed term for each check (30_encoding.md R114, R115) -/

theorem test_wf_encrypt_no_pass : ¬ (Instr.encrypt 0 4).WellFormed := by decide
theorem test_wf_encrypt_too_many_passes : ¬ (Instr.encrypt 256 4).WellFormed := by decide
theorem test_wf_encrypt_no_pair : ¬ (Instr.encrypt 64 0).WellFormed := by decide
theorem test_wf_encrypt_too_many_pairs : ¬ (Instr.encrypt 64 5).WellFormed := by decide
theorem test_wf_encrypt_limits :
    (Instr.encrypt 1 1).WellFormed ∧ (Instr.encrypt 255 4).WellFormed := by decide

/-! ## Decoding, the words written from the fields of 30_encoding.md R111 and R118 -/

theorem test_decode_nop : decode 0b00000_000_00000000_0000_0000_00000000 = .ok .nop := by decide
theorem test_decode_init : decode 0b00000_000_00000000_0000_0000_00000001 = .ok .init := by decide
theorem test_decode_expand :
    decode 0b00000_000_00000000_0000_0001_00000010 = .ok (.expand .salt .pass) ∧
    decode 0b00000_000_00000000_0001_0000_00000010 = .ok (.expand .pass .salt) := by decide
theorem test_decode_expand0 :
    decode 0b00000_000_00000000_0000_0001_00000011 = .ok (.expand0 .salt) := by decide
theorem test_decode_loadmagic :
    decode 0b00000_000_00000000_0000_0000_00000100 = .ok .loadmagic := by decide
theorem test_decode_encrypt :
    decode 0b00000_100_01000000_0000_0000_00000101 = .ok (.encrypt 64 4) ∧
    decode 0b00000_011_10000001_0000_0000_00000101 = .ok (.encrypt 129 3) := by decide
theorem test_decode_serialize :
    decode 0b00000_000_00000000_0000_0000_00000110 = .ok .serialize := by decide
theorem test_decode_bhash :
    decode 0b00000_000_00000000_0000_0000_00000111 = .ok .bhash := by decide
theorem test_decode_accload :
    decode 0b00000_000_00000000_0000_0000_00001000 = .ok .accload := by decide
theorem test_decode_accxor :
    decode 0b00000_000_00000000_0000_0000_00001001 = .ok .accxor := by decide
theorem test_decode_rehash :
    decode 0b00000_000_00000000_0000_0000_00001010 = .ok .rehash := by decide
theorem test_decode_kdfblk :
    decode 0b00000_000_00000000_0000_0000_00001011 = .ok .kdfblk := by decide
theorem test_decode_wipe :
    decode 0b00000_000_00000000_0000_0000_00001100 = .ok .wipe := by decide

/-- 95_test_vectors.md V30: opcodes that are no command. -/
theorem test_decode_illegal :
    decode 0x0000000D = .error .illegalOp ∧ decode 0x000000FF = .error .illegalOp ∧
    decode 0xFFFFFFFF = .error .illegalOp := by decide
/-- V30: reserved bits, reserved selectors and operand bits that must be 0. -/
theorem test_decode_reserved :
    decode 0x80000000 = .error .badField ∧ decode 0x00000202 = .error .badField ∧
    decode 0x00001003 = .error .badField ∧ decode 0x0100000B = .error .badField := by decide
/-- V30: the counts and the selectors of ENCRYPT. -/
theorem test_decode_encrypt_fields :
    decode 0x04000005 = .error .badField ∧ decode 0x00010005 = .error .badField ∧
    decode 0x05010005 = .error .badField ∧ decode 0x08010005 = .error .badField ∧
    decode 0x04010105 = .error .badField := by decide

/-- The opcode table's numbering of the bits. -/
theorem test_decode_table_word :
    decodeTableWord 32 0x01010005 = some (.encrypt 1 1) ∧ decodeTableWord 32 0x0000000D = none := by
  decide

/-! ## Cipher primitives (95_test_vectors.md V11 to V16) -/

/-- A state with given CDATA, otherwise as after reset. -/
def withCdata (d : Vector Word 8) : State := { State.reset with cdata := d }

/-- The state an outcome goes on with. -/
def after (o : Host.Outcome State Fault Refusal) : State :=
  match o with
  | .next t => t
  | .fault _ => State.reset
  | .refused _ => State.reset

/-- V11. -/
theorem test_roundF : roundF initTables 0x01020304 = 0x3CEDFF8C := by decide +kernel
/-- V11. -/
theorem test_encipher : encipher initTables 0x00000001 0x00000000 = (0xD4C101BE, 0x7D620C93) := by
  decide +kernel
/-- V13. -/
theorem test_streamWord_wraps :
    streamWord (Vector.ofFn fun (i : Fin 64) => BitVec.ofNat 8 i.val) 62 = (0x3E3F0001, 2) ∧
    streamWord magic 30 = (0x74654F78, 2) := by decide +kernel
/-- 12_constant_rom.md R66: MAGIC spells its string. -/
theorem test_magic :
    magic.toList.map (fun b => Char.ofNat b.toNat) = "OxychromaticBlowfishSwatDynamite".toList := by
  decide +kernel

/-! ## Each command -/

/-- V17. -/
theorem test_nop : (after (doCommand 1 .nop State.reset)).statusWord = 0x00000002 := by
  decide +kernel
/-- V10. -/
theorem test_init :
    (after (exec .init State.reset)).cipher.p[0] = 0x243F6A88 ∧
    (after (exec .init State.reset)).cipher.s[3][255] = 0x3AC372E6 := by decide +kernel
/-- 40_blockmixer_primitives.md R146: under all-zero tables and buffers every word stays zero. -/
theorem test_expand :
    (after (exec (.expand .salt .pass) { State.reset with phase := .run })).done = true := by
  decide +kernel
/-- R147: the first pair of P is the encipherment of (0, 0), which V11 and V14 give. -/
theorem test_expand0 :
    (storeP 0 (by decide) (encipherBlock (mixNone
      { c := { initTables with p := xorKey pInit (zeros 64) }, l := 0, r := 0, j := 0 }))).c.p[1] =
      0x1792D23A := by decide +kernel
/-- V10, V17. -/
theorem test_loadmagic :
    (after (exec .loadmagic (withCdata (Vector.replicate 8 0xFFFFFFFF)))).cdata.toList =
      [0x4F787963, 0x68726F6D, 0x61746963, 0x426C6F77, 0x66697368, 0x53776174, 0x44796E61,
        0x6D697465] := by decide +kernel
/-- V12: one pass over two pairs from the reset tables. -/
theorem test_encrypt_zero_tables :
    (after (exec (.encrypt 1 2) (withCdata
      #v[0x00000001, 0x00000000, 0x12345678, 0x9ABCDEF0, 3, 4, 5, 6]))).cdata.toList =
      [0x00000000, 0x00000001, 0x9ABCDEF0, 0x12345678, 3, 4, 5, 6] := by decide +kernel
/-- V15, `ENCRYPT 1, 2` after INIT and LOADMAGIC. -/
theorem test_encrypt_init_tables :
    (encryptPasses initTables 1 2 (loadMagic zeroWords)).toList =
      [0x6B7B07B6, 0x55DD2792, 0x89D0C1AF, 0xDA8473DB, 0x66697368, 0x53776174, 0x44796E61,
        0x6D697465] := by decide +kernel
/-- V16. -/
theorem test_serialize :
    (after (exec .serialize (withCdata #v[0x11223344, 0x55667788, 0x99AABBCC, 0xDDEEFF00, 0x00000000,
      0x00000001, 0x80000000, 0xFFFFFFFF]))).tmpout.toList =
      [0x44, 0x33, 0x22, 0x11, 0x88, 0x77, 0x66, 0x55, 0xCC, 0xBB, 0xAA, 0x99, 0x00, 0xFF, 0xEE, 0xDD,
        0, 0, 0, 0, 0x01, 0, 0, 0, 0, 0, 0, 0x80, 0xFF, 0xFF, 0xFF, 0xFF] := by decide +kernel
/-- V20: PASS, SALT and OUT stay, STATUS is DONE. -/
theorem test_bhash :
    (after (exec .bhash { State.reset with phase := .run, out := Vector.replicate 32 7 })).out[5] = 7 ∧
    (after (exec .bhash { State.reset with phase := .run })).statusWord = 0x00000002 := by
  decide +kernel
/-- V24. -/
theorem test_accload :
    (after (exec .accload { State.reset with tmpout := Vector.replicate 32 0x7A })).out =
      Vector.replicate 32 0x7A := by decide +kernel
/-- V24: the first byte of the r = 2 row, 0x7A xor 0x0F. -/
theorem test_accxor :
    (after (exec .accxor { State.reset with
      tmpout := Vector.replicate 32 0x0F, out := Vector.replicate 32 0x7A })).out =
      Vector.replicate 32 0x75 := by decide +kernel
/-- V23: BUSY and DWAIT while the request is outstanding. -/
theorem test_rehash_waits :
    (after (exec .rehash { State.reset with phase := .run })).statusWord = 0x00000009 := by
  decide +kernel
/-- V22: with ROUNDS = 1 no digest request is made. -/
theorem test_kdfblk_one_round :
    (after (exec .kdfblk { State.reset with phase := .run, rlat := 1 })).roundcnt = 1 ∧
    (after (exec .kdfblk { State.reset with phase := .run, rlat := 1 })).statusWord = 0x00000002 := by
  decide +kernel
/-- V33: with more rounds to come the core waits for the digest, one round counted. -/
theorem test_kdfblk_waits :
    (after (exec .kdfblk { State.reset with phase := .run, rlat := 4 })).roundcnt = 1 ∧
    (after (exec .kdfblk { State.reset with phase := .run, rlat := 4 })).statusWord = 0x00000009 := by
  decide +kernel
/-- V25. -/
theorem test_wipe :
    (after (exec .wipe { State.reset with
      salt := Vector.replicate 64 1, rounds := 4, roundcnt := 4 })).salt = zeros 64 ∧
    (after (exec .wipe { State.reset with
      salt := Vector.replicate 64 1, rounds := 4, roundcnt := 4 })).roundcnt = 0 := by
  decide +kernel

/-! ## Errors, bus and interrupts (V30 to V36) -/

/-- V30, V31: the STATUS values and the first error kept. -/
theorem test_errors :
    (busWrite 0x0008 0x000000FF State.reset).statusWord = 0x00000104 ∧
    (busWrite 0x0008 0x80000000 State.reset).statusWord = 0x00000204 ∧
    (busWrite 0x0008 0x0000000B State.reset).statusWord = 0x00000404 ∧
    (busWrite 0x0008 0x0100000B State.reset).statusWord = 0x00000204 ∧
    (busWrite 0x0008 0x0000000B (busWrite 0x0008 0x000000FF State.reset)).statusWord = 0x00000104 ∧
    (clearStatus (busWrite 0x0008 0x000000FF State.reset)).statusWord = 0x00000000 := by
  decide +kernel
/-- V33: a write while BUSY. -/
theorem test_busy :
    (busWrite 0x000C 1 { State.reset with phase := .run, rounds := 4 }).rounds = 4 ∧
    (busWrite 0x000C 1 { State.reset with phase := .run, rounds := 4 }).statusWord = 0x00000305 ∧
    busRead 0x01A0 { State.reset with phase := .run, out := Vector.replicate 32 1 } = 0 := by
  decide +kernel
/-- V34: reserved offsets, read-only ID and the ignored low bits. -/
theorem test_offsets :
    busRead 0x0018 State.reset = 0 ∧ busRead 0x1FFC State.reset = 0 ∧
    busRead 0x0000 (busWrite 0x0000 0 State.reset) = 0x42504B01 ∧ regOf 0x0102 = .pass 0 := by
  decide +kernel
/-- V35. -/
theorem test_w1c :
    (busWrite 0x0004 0x2 { State.reset with done := true, err := true
                                            errcode := .illegalOp }).statusWord = 0x00000104 ∧
    (busWrite 0x0004 0x4 { State.reset with done := true, err := true
                                            errcode := .illegalOp }).statusWord = 0x00000002 := by
  decide +kernel
/-- V36 (60_exceptions.md R271). -/
theorem test_irq :
    State.irq { State.reset with done := true, doneie := true } = true ∧
    (busWrite 0x0004 0x2 { State.reset with done := true, doneie := true }).irq = false ∧
    (busWrite 0x0008 0xFF { State.reset with errie := true }).irq = true := by decide +kernel
/-- The bytes a bus write stores, least significant first (20_memory.md R73; PW, bus word 0). -/
theorem test_lane :
    (busWrite 0x0100 0xBBF309B1 State.reset).pass.toList.take 4 = [0xB1, 0x09, 0xF3, 0xBB] := by
  decide +kernel
/-- The probe runs the command it places, as the first one after reset. -/
theorem test_withFetchWord :
    (after (step (State.reset.withFetchWord 32 0x00000004))).cdata[7] = 0x6D697465 := by
  decide +kernel

/-! ## Host procedure and assembler (V6, V41, 30_encoding.md R121) -/

theorem test_invalid_calls :
    invalidCall [1] [1] 32 0 true = true ∧ invalidCall [] [1] 32 4 true = true ∧
    invalidCall [1] [] 32 4 true = true ∧ invalidCall [1] [1] 0 4 true = true ∧
    invalidCall [1] [1] 1025 4 true = true ∧ invalidCall [1] [1] 32 4 false = true ∧
    invalidCall [1] [1] 1024 4 true = false := by decide
/-- V41. -/
theorem test_stride :
    (strideOf 1, amtOf 1) = (1, 1) ∧ (strideOf 33, amtOf 33) = (2, 17) ∧
    (strideOf 100, amtOf 100) = (4, 25) ∧ (strideOf 1000, amtOf 1000) = (32, 32) ∧
    (strideOf 1023, amtOf 1023) = (32, 32) := by decide
/-- V41: keyLength 33 writes 17, then 16 bytes, the odd places by block 2. -/
theorem test_assembly :
    (assembleAll (fun b => List.replicate 32 (BitVec.ofNat 8 b)) 32
      (startCall [1] [1] (List.replicate 33 0) 33 1)).key =
      (List.replicate 16 [1, 2]).flatten ++ [1] := by decide +kernel
theorem test_assembler :
    assembleLine "  do Encrypt 0x40, 4 ; 64 passes" = some [.wr 0x0008 0x04400005, .waitIdle] ∧
    assembleLine "EXPAND SALT, PASS" = some [.wr 0x0008 0x00000102] ∧
    assembleLine "WR CDATA[1], 0x89ABCDEF" = some [.wr 0x01C4 0x89ABCDEF] ∧
    assembleLine "ENCRYPT 0, 4" = none := by decide +kernel

/-! ## Witnesses: for each statement with hypotheses, a state and operands that meet them -/

/-- Phase RUN with a given word. -/
def running (w : Word) : State := { State.reset with phase := .run, cur := w }

/-- REHASH waiting for its digest. -/
def waiting : State :=
  { State.reset with phase := .wait, cur := 0x0A, ret := .afterDigest, dreq := some (zeros 32) }

/-- A host whose program begins with one action. -/
def hostWith (a : HostAct) : State :=
  { State.reset with host := { HostAgent.idle with prog := [a] } }

theorem witness_ResetFromAnyState_read :
    nextAct (hostWith (.rd 0x0004)).host = some (.rd 0x0004, HostAgent.idle) := by decide
theorem witness_ResetFromAnyState_write :
    nextAct (hostWith (.wr 0x0008 7)).host = some (.wr 0x0008 7, HostAgent.idle) := by decide
theorem witness_ResetFromAnyState_reads :
    nextAct (hostWith .waitIdle).host = some (.waitIdle, HostAgent.idle) ∧
    nextAct (hostWith .checkErr).host = some (.checkErr, HostAgent.idle) ∧
    nextAct (hostWith (.readOut 7)).host = some (.readOut 7, HostAgent.idle) := by decide
theorem witness_DecodeOfEveryWord_illegal : 0x0C < (0x0000000D : Word).extractLsb' 0 8 := by decide
theorem witness_DecodeOfEveryWord_bad :
    (0x0000010C : Word).extractLsb' 0 8 ≤ 0x0C ∧ badWord 0x0000010C := by
  unfold badWord; decide
theorem witness_DecodeOfEveryWord_legal :
    (0x0000000C : Word).extractLsb' 0 8 ≤ 0x0C ∧ ¬ badWord 0x0000000C := by
  unfold badWord; decide
theorem witness_DecodeOfEncode : (Instr.encrypt 255 4).WellFormed := by decide
theorem witness_EncodeOfDecode : decode 0x04FF0005 = .ok (.encrypt 255 4) := by decide
theorem witness_SubmitEveryWord_busy : regOf 0x000B = .cmd ∧ (running 0).busy = true := by decide
theorem witness_SubmitEveryWord_idle :
    regOf 0x0008 = .cmd ∧ State.reset.busy = false ∧ 0x0C < (0x0D : Word).extractLsb' 0 8 ∧
    (0x8000000C : Word).extractLsb' 0 8 ≤ 0x0C ∧ badWord 0x8000000C ∧ State.reset.rounds = 0 ∧
    ({ State.reset with rounds := 1 } : State).busy = false ∧
    ({ State.reset with rounds := 1 } : State).rounds ≠ 0 := by
  unfold badWord; decide
theorem witness_SubmitEveryWord_accepted :
    State.reset.busy = false ∧ (0x0000000C : Word).extractLsb' 0 8 ≤ 0x0C ∧ ¬ badWord 0x0000000C ∧
    (0x0000000C : Word) ≠ 0x0000000B := by
  unfold badWord; decide
theorem witness_ErrorCodesInStatus :
    State.reset.err = false ∧ (running 0).busy = true ∧ (running 0).err = false ∧
    (regOf 0x13FC).isData = true ∧ regOf 0x0008 = .cmd ∧ State.reset.busy = false ∧
    0x0C < (0x0D : Word).extractLsb' 0 8 ∧ (0x0B00000B : Word).extractLsb' 0 8 ≤ 0x0C ∧
    badWord 0x0B00000B ∧ State.reset.rounds = 0 ∧
    ({ State.reset with err := true, errcode := .busy } : State).err = true ∧
    regOf 0x0008 ≠ .status := by
  unfold badWord; decide
theorem witness_RegisterMap : (3 : Nat) < 4 ∧ (0x1400 ≤ 0x1FFF ∧ 0x1FFF < 0x2000) := by decide
theorem witness_BusWriteRules :
    regOf 0x0008 = .cmd ∧ regOf 0x0007 = .status ∧ regOf 0x0014 = .inten ∧
    (regOf 0x1FFF).isReadOnly = true ∧ (running 0).busy = true ∧ (regOf 0x13FF).isData = true ∧
    State.reset.busy = false ∧ regOf 0x000C = .rounds ∧ regOf 0x013C = .pass 15 ∧
    regOf 0x017C = .salt 15 ∧ regOf 0x01DC = .cdata 7 ∧ regOf 0x0244 = .p 17 ∧
    regOf 0x13FC = .s 3 255 := by decide
theorem witness_BusReadRules :
    regOf 0x0003 = .id ∧ regOf 0x0004 = .status ∧ regOf 0x000C = .rounds ∧
    regOf 0x0010 = .roundcnt ∧ regOf 0x0014 = .inten ∧ regOf 0x0018 = .reserved ∧
    (regOf 0x13FF).isWindow = true ∧ (running 0).busy = true ∧ State.reset.busy = false ∧
    regOf 0x019C = .tmpout 7 ∧ regOf 0x01BC = .out 7 ∧ regOf 0x0100 = .pass 0 ∧
    regOf 0x0140 = .salt 0 ∧ regOf 0x01C0 = .cdata 0 ∧ regOf 0x0200 = .p 0 ∧
    regOf 0x0400 = .s 0 0 := by decide
theorem witness_ReadAfterWrite :
    State.reset.busy = false ∧ (regOf 0x0200).isData = true ∧ regOf 0x0204 ≠ regOf 0x0200 := by decide
theorem witness_ReadsAndRepeatedWrites :
    nextAct (hostWith (.rd 0x01A0)).host = some (.rd 0x01A0, HostAgent.idle) ∧
    nextAct (hostWith .waitIdle).host = some (.waitIdle, HostAgent.idle) ∧
    nextAct (hostWith .checkErr).host = some (.checkErr, HostAgent.idle) ∧
    (hostWith .checkErr).err = false ∧
    nextAct (hostWith (.readOut (7 : Fin 8))).host = some (.readOut 7, HostAgent.idle) ∧
    regOf 0x0004 = .status ∧ regOf 0x0014 = .inten ∧ (regOf 0x000C).isData = true := by decide
theorem witness_StatusWriteClearsOnly : regOf 0x0004 = .status := by decide
theorem witness_InterruptSources :
    State.reset.busy = false ∧ decode 0x0000000A = .ok .rehash ∧
    (Instr.rehash = .kdfblk → State.reset.rounds ≠ 0) := by decide
theorem witness_StreamWordIsBigEndian : 0 < 64 ∧ 64 ≤ 64 := by decide
theorem witness_ExpandWithZeroData : State.reset.buf .salt = zeros 64 := by decide
theorem witness_InitLoadsTheConstants : State.reset.busy = false := by decide
theorem witness_ExpandRunsTheKeySchedule :
    (0x0000F002 : Word).extractLsb' 0 8 = 0x02 ∧ 1 < (0x0000F002 : Word).extractLsb' 12 4 := by decide
theorem witness_Expand0RunsTheKeySchedule :
    (0x80000003 : Word).extractLsb' 0 8 = 0x03 ∧ (0x80000003 : Word).extractLsb' 12 20 ≠ 0 := by
  decide
theorem witness_EncryptRunsPassesOnPairs : (Instr.encrypt 255 4).WellFormed := by decide
theorem witness_EncryptPassesAdd : 1 ≤ 1 ∧ 1 ≤ 254 ∧ 1 + 254 ≤ 255 ∧ 1 ≤ 4 ∧ 4 ≤ 4 := by decide
theorem witness_onlyWord :
    (0x80000007 : Word).extractLsb' 0 8 = (0x00000007 : Word).extractLsb' 0 8 ∧
    (0x80000007 : Word).extractLsb' 8 24 ≠ 0 := by decide
theorem witness_BhashEqualsXhash : State.reset.busy = false := by decide
theorem witness_AccxorXorsBytesAndWords : State.reset.busy = false := by decide
theorem witness_RehashReplacesSalt :
    (running 0x0A).ret = .top ∧ waiting.phase = .wait ∧ waiting.dreq = some (zeros 32) ∧
    waiting.ret = .afterDigest ∧ State.reset.busy = false := by decide
theorem witness_KdfblkOneRound :
    ({ running 0x0B with rlat := 2 } : State).ret = .top ∧
    1 < ({ running 0x0B with rlat := 2 } : State).rlat ∧
    ¬ 1 < ({ running 0x0B with rlat := 1 } : State).rlat ∧
    ({ running 0x0B with ret := .afterDigest, rlat := 3, roundcnt := 1 } : State).roundcnt + 1 <
      ({ running 0x0B with ret := .afterDigest, rlat := 3, roundcnt := 1 } : State).rlat ∧
    ¬ ({ running 0x0B with ret := .afterDigest, rlat := 2, roundcnt := 1 } : State).roundcnt + 1 <
      ({ running 0x0B with ret := .afterDigest, rlat := 2, roundcnt := 1 } : State).rlat := by
  decide
theorem witness_KdfblkRunsTheRoundChain :
    (running 0x0B).sched = [] ∧ (running 0x0B).order = .fair ∧ (running 0x0B).phase = .run ∧ (running 0x0B).cur = 0x0000000B ∧
    (running 0x0B).ret = .top ∧ (running 0x0B).dreq = none ∧
    ({ running 0x0B with rlat := 4 } : State).rlat ≠ 0 := by decide
theorem witness_KdfblkEqualsPrimitiveSequence :
    ({ State.reset with rounds := 4 } : State).busy = false ∧
    ({ State.reset with rounds := 4 } : State).rounds ≠ 0 := by decide
theorem witness_WipeZeroesEverySensitiveBuffer :
    (regOf 0x0100).isWindow = true ∧ regOf 0x0010 = .roundcnt ∧ State.reset.err = false ∧
    State.reset.errcode = .none := by decide
theorem witness_WritersOfEachBuffer :
    exec .wipe State.reset = .next (complete (wipeBuffers State.reset)) := rfl
theorem witness_WritersOfEachBuffer_changes :
    (complete (wipeBuffers { State.reset with pass := Vector.replicate 64 1 })).pass ≠
      Vector.replicate 64 1 := by decide +kernel
theorem witness_StepRunsTheDecodedCommand :
    (running 0x0C).phase = .run ∧ decode (running 0x0C).cur = .ok .wipe ∧ (running 0x0C).sched = [] ∧
    ({ running 0x0C with sched := [.core, .host] } : State).sched = .core :: [.host] := by decide
theorem witness_FetchWordRunsTheCommand : Instr.kdfblk.WellFormed := by decide
/-- The invariant holds while REHASH waits for its digest. -/
theorem witness_Inv : waiting.Inv where
  busy_not_done := fun _ => rfl
  request_in_wait := fun h => absurd rfl h
  wait_message := fun _ => rfl
  wait_resume := fun _ => rfl
  resume_command := fun _ _ => .inl (by decide)
  running_decodes := fun _ => ⟨.rehash, by decide⟩
  code_iff_err := by decide
  count_bound := by decide
  kdf_latch := fun _ h => absurd h (by decide)
theorem witness_StepKeepsTheInvariant : step waiting = .next (digestStep waiting) := rfl
theorem witness_UnsolicitedDigestIgnored : State.reset.phase ≠ .wait := by decide
theorem witness_DigestPortLanes : waiting.phase = .wait ∧ waiting.dreq = some (zeros 32) := by decide
theorem witness_BusyHidesIntermediateValues :
    (running 0).busy = true ∧
    sameControl (running 0) { running 0x07 with tmpout := Vector.replicate 32 1 } :=
  ⟨rfl, rfl, rfl, rfl, rfl, rfl, rfl, rfl, rfl⟩
theorem witness_NoReadbackHidesTheSecrets :
    sameControl State.reset { State.reset with pass := Vector.replicate 64 1 } :=
  ⟨rfl, rfl, rfl, rfl, rfl, rfl, rfl, rfl⟩
theorem witness_HostCannotDisturbARunningCommand :
    (running 0x08).busy = true ∧
    exec .accload (running 0x08) = .next (complete { running 0x08 with out := zeros 32 }) :=
  ⟨rfl, rfl⟩
theorem witness_RejectedCallFillsTheKey :
    nextAct (hostWith (.call [1] [2] [0] 1 0 true)).host =
      some (.call [1] [2] [0] 1 0 true, HostAgent.idle) ∧
    invalidCall [1] [2] 1 0 true = true := by decide
theorem witness_StrideAndAmountBounds : 1 ≤ 1 ∧ 1024 ≤ 1024 := by decide
theorem witness_AssemblyWritesEveryByteOnce :
    (∀ b : Nat, ((fun _ => List.replicate 32 0) b : List Byte).length = 32) ∧ 1 ≤ 33 ∧ 33 ≤ 1024 ∧
    (List.replicate 33 (0 : Byte)).length = 33 ∧
    (1 ≤ 2 ∧ 2 ≤ strideOf 33 ∧ 15 * strideOf 33 + 2 - 1 < 33) :=
  ⟨fun _ => rfl, by decide, by decide, by decide, by decide⟩
theorem witness_LdbufLoadsTheBuffer :
    State.reset.busy = false ∧ State.reset.sched = [] ∧ State.reset.host.todo = [] ∧
    ({ HostAgent.idle with prog := ldbuf .pass (zeros 64).toList ++ [] } : HostAgent).prog =
      ldbuf .pass (zeros 64).toList ++ [] := ⟨rfl, rfl, rfl, rfl⟩
theorem witness_CoreErrorFailsTheCall :
    ({ hostWith .checkErr with err := true, errcode := .busy } : State).busy = false ∧
    ({ hostWith .checkErr with err := true, errcode := .busy } : State).sched = [] ∧
    ({ hostWith .checkErr with err := true, errcode := .busy } : State).err = true ∧
    nextAct (hostWith .checkErr).host = some (.checkErr, HostAgent.idle) := by decide
theorem witness_DeriveKeyComputesTheKey :
    (hostWith (.call [1] [2] [0] 1 1 true)).busy = false ∧
    (hostWith (.call [1] [2] [0] 1 1 true)).sched = [] ∧
    (hostWith (.call [1] [2] [0] 1 1 true)).order = .fair ∧
    (hostWith (.call [1] [2] [0] 1 1 true)).err = false ∧
    (hostWith (.call [1] [2] [0] 1 1 true)).host.todo = [] ∧
    (hostWith (.call [1] [2] [0] 1 1 true)).host.prog = .call [1] [2] [0] 1 1 true :: [] ∧
    invalidCall [1] [2] 1 1 true = false ∧ [(0 : Byte)].length = 1 := by decide

/-- A NOP that runs: one core step and then a machine with nothing to do. -/
theorem nop_run (n : Nat) :
    Sys2Proof.core.run (n + 1) (running 0) = .next (complete (running 0)) := by
  have e : ∀ m, Sys2Proof.core.run m (complete (running 0)) = .next (complete (running 0)) := by
    intro m
    induction m with
    | zero => rfl
    | succ m ih => exact ih
  exact e n
theorem witness_FairDigestAgentLetsCommandsEnd_fair : waiting.Inv ∧ waiting.order = .fair :=
  ⟨witness_Inv, rfl⟩
theorem witness_FairDigestAgentLetsCommandsEnd_ends :
    (running 0).Inv ∧ weaklyFair (running 0) ∧ noReset (running 0) ∧ (running 0).busy = true := by
  refine ⟨⟨by decide, fun _ => rfl, by decide, by decide, by decide, fun _ => ⟨.nop, by decide⟩,
    by decide, by decide, by decide⟩, ?_, by simp [noReset, running, State.reset], rfl⟩
  intro n t h
  cases n with
  | zero =>
      injection h with h
      subst h
      exact ⟨0, running 0, rfl, fun _ => .inr rfl, fun h => nomatch h⟩
  | succ n =>
      rw [nop_run] at h
      injection h with h
      subst h
      exact ⟨0, complete (running 0), rfl, fun h => (nomatch h), fun h => nomatch h⟩
theorem witness_SilentDigestAgentHangsTheCore :
    ({ waiting with order := .silentDigest, sched := [.host, .core] } : State).phase = .wait ∧
    ({ waiting with order := .silentDigest, sched := [.host, .core] } : State).order =
      .silentDigest ∧
    noReset { waiting with order := .silentDigest, sched := [.host, .core] } ∧
    Turn.digest ∉ ({ waiting with order := .silentDigest, sched := [.host, .core] } : State).sched := by
  unfold noReset; decide

end Sys2Proof.Tests
end

section
/-! Proofs of the statements about the state (10_state.md): the bits of STATUS and INTEN, what a
command body can do to the state, and the machine's invariant. -/

namespace Sys2Proof.Machine

/-! ### The bits of STATUS and INTEN (10_state.md R31, R32) -/

section StatusBits

variable (s : State)

/-- Every bit of STATUS (10_state.md R31). -/
theorem statusWord_getLsbD (i : Nat) :
    s.statusWord.getLsbD i =
      match i with
      | 0 => s.busy
      | 1 => s.done
      | 2 => s.err
      | 3 => s.dwait
      | j + 4 => decide (4 ≤ j) && s.errcode.code.getLsbD (j - 4) := by
  unfold State.statusWord
  change BitVec.getLsbD (w := 20 + 4 + 4 + 1 + 1 + 1 + 1) (_ ++ _ ++ _ ++ _ ++ _ ++ _ ++ _) i = _
  simp only [BitVec.getLsbD_append]
  rcases i with _ | _ | _ | _ | j
  · simp
  · simp
  · simp
  · simp
  · by_cases h : j < 4
    · simp [h]
    · simpa [h, Nat.le_of_not_lt h] using BitVec.lt_of_getLsbD

/-- Every bit of INTEN (10_state.md R32). -/
theorem intenWord_getLsbD (i : Nat) :
    s.intenWord.getLsbD i =
      match i with
      | 0 => s.doneie
      | 1 => s.errie
      | _ + 2 => false := by
  unfold State.intenWord
  change BitVec.getLsbD (w := 30 + 1 + 1) (_ ++ _ ++ _) i = _
  simp only [BitVec.getLsbD_append]
  rcases i with _ | _ | j <;> simp

/-- STATUS bits 11:8 are ERRCODE (10_state.md R31). -/
@[simp] theorem statusWord_errcode : s.statusWord.extractLsb' 8 4 = s.errcode.code := by
  refine BitVec.eq_of_getLsbD_eq fun i hi => ?_
  simp only [BitVec.getLsbD_extractLsb', hi, decide_true, Bool.true_and,
    show 8 + i = i + 4 + 4 by omega, statusWord_getLsbD]
  simp

/-- STATUS bits 7:4 are reserved (10_state.md R31). -/
@[simp] theorem statusWord_reserved_low : s.statusWord.extractLsb' 4 4 = 0 := by
  refine BitVec.eq_of_getLsbD_eq fun i hi => ?_
  simp only [BitVec.getLsbD_extractLsb', show 4 + i = i + 4 by omega, statusWord_getLsbD]
  simp [Nat.not_le_of_lt hi]

/-- STATUS bits 31:12 are reserved (10_state.md R31). -/
@[simp] theorem statusWord_reserved_high : s.statusWord.extractLsb' 12 20 = 0 := by
  refine BitVec.eq_of_getLsbD_eq fun i hi => ?_
  simp only [BitVec.getLsbD_extractLsb', show 12 + i = i + 8 + 4 by omega, statusWord_getLsbD]
  simp [BitVec.getLsbD_of_ge]

end StatusBits

@[simp] theorem ErrCode.code_none : ErrCode.none.code = 0 := rfl

@[simp] theorem writeStatus_busy (w : Word) (s : State) : (writeStatus w s).busy = s.busy := rfl
@[simp] theorem writeStatus_dwait (w : Word) (s : State) : (writeStatus w s).dwait = s.dwait := rfl

/-- A write to STATUS is `writeStatus` (20_memory.md R76). -/
theorem busWrite_status {off : BitVec 13} (h : regOf off = .status) (w : Word) (s : State) :
    busWrite off w s = writeStatus w s := by
  unfold busWrite; rw [h]; rfl

/-- Settles O14: BUSY and DWAIT are read off the phase, which a STATUS write keeps, and every bit of
STATUS is known. -/
theorem statusWriteClearsOnly : Obligations.StatusWriteClearsOnly := by
  intro s off w h
  rw [busWrite_status h]
  refine ⟨?_, ?_, ?_, ?_, ?_, ?_, ?_, ?_, ?_, _, _, _, rfl⟩
  · exact statusWord_getLsbD s 0
  · exact statusWord_getLsbD s 3
  · simp only [statusWord_getLsbD, writeStatus_busy]
  · simp only [statusWord_getLsbD, writeStatus_done]
  · simp only [statusWord_getLsbD, writeStatus_err]
  · simp only [statusWord_getLsbD, writeStatus_dwait]
  · exact statusWord_reserved_low _
  · simp only [statusWord_errcode, writeStatus_errcode, apply_ite ErrCode.code, ErrCode.code_none]
  · exact statusWord_reserved_high _

/-- Settles O15: STATUS and INTEN show the four bits irq is computed from. -/
theorem interruptLine : Obligations.InterruptLine := by
  intro s
  have hs : busRead 0x0004 s = s.statusWord := rfl
  have hi : busRead 0x0014 s = s.intenWord := rfl
  simp only [hs, hi, statusWord_getLsbD, intenWord_getLsbD, State.irq]

/-! ### Reset (10_state.md R40) -/

/-- Settles O1: every register of the reset state, as stored or as a bus read shows it. -/
theorem resetRegisters : Obligations.ResetRegisters := by
  refine ⟨?_, ?_, ?_, ?_, ?_, rfl, rfl, ?_, ?_, rfl, rfl, rfl, rfl, rfl, rfl⟩
  · simp [State.reset, CipherState.zero]
  · simp [State.reset, CipherState.zero]
  · simp [State.reset, zeroWords]
  · simp [State.reset, zeros]
  · simp [State.reset, zeros]
  · decide
  · decide

/-! ### What a command body can do (10_state.md R21 to R29, 42_cmd_hash_kdf.md R210) -/

/-- The work of a core step, before it completes or requests a digest: which buffers each command
writes. -/
inductive BodyWork (s : State) : Instr → State → Prop where
  | nop : BodyWork s .nop s
  | rehash : BodyWork s .rehash s
  | init (c : CipherState) : BodyWork s .init { s with cipher := c }
  | expand (data key : Sel) (c : CipherState) : BodyWork s (.expand data key) { s with cipher := c }
  | expand0 (key : Sel) (c : CipherState) : BodyWork s (.expand0 key) { s with cipher := c }
  | loadmagic (d : Vector Word 8) : BodyWork s .loadmagic { s with cdata := d }
  | encrypt (n m : Nat) (d : Vector Word 8) : BodyWork s (.encrypt n m) { s with cdata := d }
  | serialize (b : Vector Byte 32) : BodyWork s .serialize { s with tmpout := b }
  | accload (b : Vector Byte 32) : BodyWork s .accload { s with out := b }
  | accxor (b : Vector Byte 32) : BodyWork s .accxor { s with out := b }
  | bhash : BodyWork s .bhash (expensiveHash s)
  | firstRound : BodyWork s .kdfblk (kdfFirstRound s)
  | nextRound : BodyWork s .kdfblk (kdfNextRound s)
  | wipe : BodyWork s .wipe (wipeBuffers s)

/-- How a core step ends after the work that led to `u`: it completes, or it requests a digest, which
only REHASH does and a KDFBLK with a round still to come. -/
inductive BodyEnd (i : Instr) (u : State) : State → Prop where
  | completes : BodyEnd i u (complete u)
  | requests (h : i = .rehash ∨ i = .kdfblk ∧ u.roundcnt < u.rlat) : BodyEnd i u (requestDigest u)

theorem kdfLoop_bodyEnd (u : State) : BodyEnd .kdfblk u (kdfLoop u) := by
  rcases kdfLoop_cases u with ⟨hlt, e⟩ | ⟨-, e⟩ <;> rw [e]
  · exact .requests (.inr ⟨rfl, hlt⟩)
  · exact .completes

/-- A core step of a command is its work and one of the two ends. -/
theorem exec_cases {i : Instr} {s t : State} (h : exec i s = .next t) :
    ∃ u, BodyWork s i u ∧ BodyEnd i u t := by
  cases i with
  | nop => cases h; exact ⟨_, .nop, .completes⟩
  | init => cases h; exact ⟨_, .init _, .completes⟩
  | expand data key =>
    obtain rfl := Host.Outcome.next.inj h
    exact ⟨_, .expand data key _, .completes⟩
  | expand0 key =>
    obtain rfl := Host.Outcome.next.inj h
    exact ⟨_, .expand0 key _, .completes⟩
  | loadmagic => cases h; exact ⟨_, .loadmagic _, .completes⟩
  | encrypt n m => cases h; exact ⟨_, .encrypt n m _, .completes⟩
  | serialize => cases h; exact ⟨_, .serialize _, .completes⟩
  | bhash => cases h; exact ⟨_, .bhash, .completes⟩
  | accload => cases h; exact ⟨_, .accload _, .completes⟩
  | accxor => cases h; exact ⟨_, .accxor _, .completes⟩
  | wipe => cases h; exact ⟨_, .wipe, .completes⟩
  | rehash =>
    unfold exec execRehash at h
    dsimp only at h
    split at h <;> cases h
    · exact ⟨s, .rehash, .requests (.inl rfl)⟩
    · exact ⟨s, .rehash, .completes⟩
  | kdfblk =>
    unfold exec execKdfblk at h
    dsimp only at h
    split at h <;> cases h
    · exact ⟨_, .firstRound, kdfLoop_bodyEnd _⟩
    · exact ⟨_, .nextRound, kdfLoop_bodyEnd _⟩

/-- The registers no command body changes have in `u` the value they have in `s`. -/
structure BodyFrame (s u : State) : Prop where
  rounds : u.rounds = s.rounds
  err : u.err = s.err
  errcode : u.errcode = s.errcode
  doneie : u.doneie = s.doneie
  errie : u.errie = s.errie
  cur : u.cur = s.cur
  rlat : u.rlat = s.rlat
  host : u.host = s.host
  sched : u.sched = s.sched
  order : u.order = s.order

theorem BodyWork.frame {i : Instr} {s u : State} (h : BodyWork s i u) : BodyFrame s u := by
  cases h <;> constructor <;> rfl

/-- The frame of every core step. -/
theorem exec_frame {i : Instr} {s t : State} (h : exec i s = .next t) : BodyFrame s t := by
  obtain ⟨u, hw, he⟩ := exec_cases h
  cases he <;> exact { hw.frame with }

section BodyWork

variable {i : Instr} {s u : State}

theorem BodyWork.done_eq (h : BodyWork s i u) : u.done = s.done := by cases h <;> rfl

theorem BodyWork.dreq_eq (h : BodyWork s i u) : u.dreq = s.dreq := by cases h <;> rfl

theorem BodyWork.pass_writer (h : BodyWork s i u) (hne : u.pass ≠ s.pass) : i = .wipe := by
  cases h with
  | wipe => rfl
  | _ => exact absurd rfl hne

theorem BodyWork.salt_writer (h : BodyWork s i u) (hne : u.salt ≠ s.salt) : i = .wipe := by
  cases h with
  | wipe => rfl
  | _ => exact absurd rfl hne

theorem BodyWork.cipher_writer (h : BodyWork s i u) (hne : u.cipher ≠ s.cipher) :
    i = .init ∨ (∃ d k, i = .expand d k) ∨ (∃ k, i = .expand0 k) ∨ i = .bhash ∨ i = .kdfblk ∨
      i = .wipe := by
  cases h with
  | init | expand | expand0 | bhash | firstRound | nextRound | wipe => simp
  | _ => exact absurd rfl hne

theorem BodyWork.cdata_writer (h : BodyWork s i u) (hne : u.cdata ≠ s.cdata) :
    i = .loadmagic ∨ (∃ n m, i = .encrypt n m) ∨ i = .bhash ∨ i = .kdfblk ∨ i = .wipe := by
  cases h with
  | loadmagic | encrypt | bhash | firstRound | nextRound | wipe => simp
  | _ => exact absurd rfl hne

theorem BodyWork.tmpout_writer (h : BodyWork s i u) (hne : u.tmpout ≠ s.tmpout) :
    i = .serialize ∨ i = .bhash ∨ i = .kdfblk ∨ i = .wipe := by
  cases h with
  | serialize | bhash | firstRound | nextRound | wipe => simp
  | _ => exact absurd rfl hne

theorem BodyWork.out_writer (h : BodyWork s i u) (hne : u.out ≠ s.out) :
    i = .accload ∨ i = .accxor ∨ i = .kdfblk ∨ i = .wipe := by
  cases h with
  | accload | accxor | firstRound | nextRound | wipe => simp
  | _ => exact absurd rfl hne

theorem BodyWork.roundcnt_writer (h : BodyWork s i u) (hne : u.roundcnt ≠ s.roundcnt) :
    i = .kdfblk ∨ i = .wipe := by
  cases h with
  | firstRound | nextRound | wipe => simp
  | _ => exact absurd rfl hne

/-- ROUNDCNT stays within the latched ROUNDS value when KDFBLK runs with a round still to come
(10_state.md R29, 42_cmd_hash_kdf.md R208). -/
theorem BodyWork.roundcnt_le (h : BodyWork s i u) (hle : s.roundcnt ≤ s.rlat)
    (hlt : i = .kdfblk → s.roundcnt < s.rlat) : u.roundcnt ≤ u.rlat := by
  cases h with
  | firstRound =>
    have := hlt rfl
    rw [kdfFirstRound_roundcnt, kdfFirstRound_rlat]
    bv_omega
  | nextRound =>
    have := hlt rfl
    rw [kdfNextRound_roundcnt, kdfNextRound_rlat]
    bv_omega
  | wipe => exact Nat.zero_le _
  | _ => exact hle

end BodyWork

/-- Settles O40: a core step writes only what its work writes, and completion and the digest request
touch no buffer. -/
theorem writersOfEachBuffer : Obligations.WritersOfEachBuffer := by
  intro i s t h
  have f := exec_frame h
  refine ⟨⟨f.rounds, f.err, f.errcode, f.doneie, f.errie, f.cur, f.rlat, f.host, f.sched,
    f.order⟩, ?_⟩
  obtain ⟨u, hw, he⟩ := exec_cases h
  cases he with
  | completes =>
    exact ⟨hw.pass_writer, hw.salt_writer, hw.cipher_writer, hw.cdata_writer, hw.tmpout_writer,
      hw.out_writer, hw.roundcnt_writer, fun hne => absurd hw.dreq_eq hne⟩
  | requests hi =>
    exact ⟨hw.pass_writer, hw.salt_writer, hw.cipher_writer, hw.cdata_writer, hw.tmpout_writer,
      hw.out_writer, hw.roundcnt_writer, fun _ => hi.imp_right And.left⟩

/-! ### The invariant and the shared operations (60_exceptions.md R260 to R268) -/

section Invariant

variable {s : State}

/-- In phase IDLE the invariant asks only for no request, ERRCODE = 0 exactly when ERR = 0, and the
bound of ROUNDCNT. -/
theorem State.Inv.of_idle (hp : s.phase = .idle) (hd : s.dreq = none)
    (hc : s.errcode = .none ↔ s.err = false) (hb : s.roundcnt ≤ s.rlat) : s.Inv := by
  have idle : s.busy ≠ true := by rw [(busy_eq_false_iff s).2 hp]; decide
  have not_wait : s.phase ≠ .wait := by rw [hp]; decide
  exact {
    busy_not_done := fun h => absurd h idle
    request_in_wait := fun _ => hd
    wait_message := fun h => absurd h not_wait
    wait_resume := fun h => absurd h not_wait
    resume_command := fun h => absurd h idle
    running_decodes := fun h => absurd h idle
    code_iff_err := hc
    count_bound := hb
    kdf_latch := fun h => absurd h idle }

/-- An idle core has no request outstanding. -/
theorem State.Inv.dreq_of_idle (hs : s.Inv) (hp : s.phase = .idle) : s.dreq = none :=
  hs.request_in_wait (by rw [hp]; decide)

/-- The invariant does not speak of INTEN, the host agent or the order of the agents. -/
theorem State.Inv.frame (hs : s.Inv) {doneie errie : Bool} {host : HostAgent} {sched : List Turn}
    {order : RestOrder} :
    State.Inv { s with doneie := doneie, errie := errie, host := host, sched := sched
                       order := order } :=
  { hs with }

/-- The invariant survives a change of DONE, ERR and ERRCODE that sets no DONE and keeps ERRCODE = 0
exactly when ERR = 0. -/
theorem State.Inv.with_status (hs : s.Inv) {done err : Bool} {code : ErrCode}
    (hd : s.done = false → done = false) (hc : code = .none ↔ err = false) :
    State.Inv { s with done := done, err := err, errcode := code } :=
  { hs with
    busy_not_done := fun h => hd (hs.busy_not_done h)
    code_iff_err := hc }

theorem raiseError_keeps_inv (hs : s.Inv) {code : ErrCode} (hc : code ≠ .none) :
    (raiseError code s).Inv := by
  refine hs.with_status id ?_
  cases he : s.err with
  | false => simp [hc]
  | true => simp [hs.code_iff_err, he]

theorem writeStatus_keeps_inv (hs : s.Inv) (w : Word) : (writeStatus w s).Inv := by
  refine hs.with_status (fun hd => by simp [hd]) ?_
  cases w.getLsbD 2 with
  | false => simpa using hs.code_iff_err
  | true => simp

/-- An accepted command starts at its top, and KDFBLK with ROUNDS latched and not 0
(60_exceptions.md R260). -/
theorem accept_inv (hs : s.Inv) {i : Instr} {w : Word} (idle : s.phase = .idle)
    (hd : decode w = .ok i) (hk : i = .kdfblk → s.rounds ≠ 0) : (accept i w s).Inv where
  busy_not_done _ := accept_done s i w
  request_in_wait _ := (accept_dreq s i w).trans (hs.dreq_of_idle idle)
  wait_message h := nomatch (accept_phase s i w).symm.trans h
  wait_resume h := nomatch (accept_phase s i w).symm.trans h
  resume_command _ h := nomatch (accept_ret s i w).symm.trans h
  running_decodes _ := ⟨i, by rw [accept_cur, hd]⟩
  code_iff_err := by rw [accept_errcode, accept_err]; exact hs.code_iff_err
  count_bound := by
    rw [accept_roundcnt, accept_rlat]
    split
    · exact Nat.zero_le _
    · exact hs.count_bound
  kdf_latch _ h := by
    rw [accept_cur, hd, Except.ok.injEq] at h
    simp only [accept_rlat, accept_rounds, accept_roundcnt, h, if_true, true_and]
    exact (BitVec.pos_iff_ne_zero _).2 (hk h)

/-! ### The invariant and the turn of each agent (20_memory.md R85) -/

theorem WriteEffect.keeps_inv {w : Word} {t : State} (h : WriteEffect w s t) (hs : s.Inv) :
    t.Inv := by
  cases h with
  | same => exact hs
  | error code hc => exact raiseError_keeps_inv hs hc
  | status => exact writeStatus_keeps_inv hs w
  | inten => exact hs.frame
  | accept i idle dec rounds => exact accept_inv hs ((busy_eq_false_iff s).1 idle) dec rounds
  | data idle =>
    have hp := (busy_eq_false_iff s).1 idle
    exact .of_idle hp (hs.dreq_of_idle hp) hs.code_iff_err hs.count_bound

theorem hostStep_keeps_inv (hs : s.Inv) : (hostStep s).Inv := by
  obtain ⟨h, e | ⟨off, w, e⟩⟩ := hostStep_cases s <;> rw [e]
  · exact hs.frame
  · exact (busWrite_effect off w _).keeps_inv (hs.frame (host := h))

/-- The answered command resumes after its request (42_cmd_hash_kdf.md R210 (c)). -/
theorem digestStep_keeps_inv (hs : s.Inv) : (digestStep s).Inv := by
  rcases digestStep_cases s with ⟨hp, m, -, e⟩ | ⟨-, e⟩ <;> rw [e]
  · have busy : s.busy = true := (busy_eq_true_iff s).2 (.inr hp)
    exact {
      busy_not_done := fun _ => hs.busy_not_done busy
      request_in_wait := fun _ => rfl
      wait_message := fun h => nomatch h
      wait_resume := fun h => nomatch h
      resume_command := fun _ => hs.resume_command busy
      running_decodes := fun _ => hs.running_decodes busy
      code_iff_err := hs.code_iff_err
      count_bound := hs.count_bound
      kdf_latch := fun _ => hs.kdf_latch busy }
  · exact hs

/-- A core step of the running command completes it, with ROUNDCNT within its bound, or leaves it
waiting for the digest of TMPOUT, with a round still to come if it is KDFBLK. -/
theorem exec_keeps_inv (hs : s.Inv) {i : Instr} {t : State} (hp : s.phase = .run)
    (hd : decode s.cur = .ok i) (h : exec i s = .next t) : t.Inv := by
  have busy : s.busy = true := (busy_eq_true_iff s).2 (.inl hp)
  have latch : i = .kdfblk → s.rlat = s.rounds ∧ s.roundcnt < s.rlat :=
    fun hi => hs.kdf_latch busy (hi ▸ hd)
  obtain ⟨u, hw, he⟩ := exec_cases h
  have hf := hw.frame
  have bound : u.roundcnt ≤ u.rlat := hw.roundcnt_le hs.count_bound fun hi => (latch hi).2
  have code : u.errcode = .none ↔ u.err = false := by rw [hf.errcode, hf.err]; exact hs.code_iff_err
  have cur : decode u.cur = .ok i := by rw [hf.cur, hd]
  cases he with
  | completes =>
    refine .of_idle rfl (hw.dreq_eq.trans ?_) code bound
    exact hs.request_in_wait (by rw [hp]; decide)
  | requests hi =>
    exact {
      busy_not_done := fun _ => hw.done_eq.trans (hs.busy_not_done busy)
      request_in_wait := fun h => absurd rfl h
      wait_message := fun _ => rfl
      wait_resume := fun _ => rfl
      resume_command := fun _ _ => by
        obtain rfl | ⟨rfl, -⟩ := hi
        · exact .inl cur
        · exact .inr cur
      running_decodes := fun _ => ⟨i, cur⟩
      code_iff_err := code
      count_bound := bound
      kdf_latch := fun _ h => by
        have hik : i = .kdfblk := Except.ok.inj (cur.symm.trans h)
        obtain hr | ⟨-, hlt⟩ := hi
        · exact nomatch hik.symm.trans hr
        · exact ⟨hf.rlat.trans ((latch hik).1.trans hf.rounds.symm), hlt⟩ }

theorem coreStep_keeps_inv (hs : s.Inv) {t : State} (h : coreStep s = .next t) : t.Inv := by
  obtain ⟨-, rfl⟩ | ⟨hp, i, hd, he⟩ := coreStep_cases h
  · exact hs
  · exact exec_keeps_inv hs hp hd he

theorem reset_inv : State.reset.Inv :=
  .of_idle rfl rfl (by decide) (by decide)

theorem resetCore_inv (s : State) : (resetCore s).Inv := reset_inv.frame

theorem turnStep_keeps_inv (hs : s.Inv) {turn : Turn} {t : State}
    (h : turnStep turn s = .next t) : t.Inv := by
  cases turn with
  | host => cases h; exact hostStep_keeps_inv hs
  | core => exact coreStep_keeps_inv hs h
  | digest => cases h; exact digestStep_keeps_inv hs
  | reset => cases h; exact resetCore_inv s
  | resetHost =>
    cases h
    obtain ⟨host, e⟩ := resetHostStep_core s
    rw [e]
    exact (resetCore_inv s).frame

end Invariant

/-- Settles O43: the reset state is idle with every register zero. -/
theorem resetMeetsTheInvariant : Obligations.ResetMeetsTheInvariant := reset_inv

/-- Settles O44: a step is one turn of one agent, and each agent's turn keeps the invariant. -/
theorem stepKeepsTheInvariant : Obligations.StepKeepsTheInvariant := by
  intro s t hs h
  obtain ⟨turn, sched, e⟩ := step_turn s
  exact turnStep_keeps_inv (hs.frame (sched := sched)) (e.symm.trans h)

end Sys2Proof.Machine
end

section
/-! The check words of the constant tables (12_constant_rom.md R68). -/

namespace Sys2Proof.Machine

/-- The initial words in the order of 12_constant_rom.md R60: P_INIT, then S_INIT[0] to S_INIT[3]. -/
def initWords : List Word := pInit.toList ++ (sInit.toList.map Vector.toList).flatten

theorem initWords_sum : initWords.foldl (· + ·) 0 = 0x6BBF03AC := by decide +kernel

theorem initWords_xor : initWords.foldl (· ^^^ ·) 0 = 0x6FFA520A := by decide +kernel

/-- Settles O58: the eight words by looking them up, the sum and the XOR by computing them over the
initial words. -/
theorem romCheckWords : Obligations.RomCheckWords :=
  ⟨⟨rfl, rfl⟩, ⟨rfl, rfl⟩, ⟨rfl, rfl⟩, ⟨rfl, rfl⟩, initWords_sum, initWords_xor⟩

end Sys2Proof.Machine
end

section
/-! Proofs of the statements about the register block (20_memory.md): the register map, the lanes of
the byte buffers, bus reads and bus writes. -/

namespace Sys2Proof.Machine

/-! ### The register map (20_memory.md R70, R72, R80) -/

/-- The two low bits of an offset are ignored (R70). -/
theorem wordOffset_ofNat {a : Nat} (h : a < 0x2000) :
    wordOffset (BitVec.ofNat 13 a) = 4 * (a / 4) := by
  unfold wordOffset
  rw [BitVec.extractLsb'_toNat, BitVec.toNat_ofNat, Nat.shiftRight_eq_div_pow]
  omega

/-- The byte offset of a register or window word (R72); the reserved offsets have none, and get the
end of the block. -/
def Reg.byteOffset : Reg → Nat
  | .id => 0x0000
  | .status => 0x0004
  | .cmd => 0x0008
  | .rounds => 0x000C
  | .roundcnt => 0x0010
  | .inten => 0x0014
  | .pass k => 0x0100 + 4 * k.val
  | .salt k => 0x0140 + 4 * k.val
  | .tmpout k => 0x0180 + 4 * k.val
  | .out k => 0x01A0 + 4 * k.val
  | .cdata k => 0x01C0 + 4 * k.val
  | .p i => 0x0200 + 4 * i.val
  | .s t k => 0x0400 + 0x400 * t.val + 4 * k.val
  | .reserved => 0x2000

/-- The map of R72 read backwards. -/
theorem regOf_of_wordOffset {off : BitVec 13} {r : Reg} (h : wordOffset off = r.byteOffset) :
    regOf off = r := by
  cases r with
  | pass k | salt k | tmpout k | out k | cdata k | p k =>
    simp (disch := omega) [regOf, h, Reg.byteOffset, if_neg, dif_neg, dif_pos]
  | s t k =>
    simp (disch := omega) only [regOf, h, Reg.byteOffset, if_neg, dif_neg, dif_pos, Reg.s.injEq,
      Fin.ext_iff]
    omega
  | id | status | cmd | rounds | roundcnt | inten | reserved => simp [regOf, h, Reg.byteOffset]

theorem Reg.byteOffset_aligned (r : Reg) : r.byteOffset % 4 = 0 := by
  cases r with
  | pass k | salt k | tmpout k | out k | cdata k | p k | s t k => simp only [byteOffset]; omega
  | id | status | cmd | rounds | roundcnt | inten | reserved => rfl

theorem Reg.byteOffset_lt (r : Reg) (hr : r ≠ .reserved) : r.byteOffset < 0x1400 := by
  cases r with
  | pass k | salt k | tmpout k | out k | cdata k | p k | s t k => simp only [byteOffset]; omega
  | id | status | cmd | rounds | roundcnt | inten => simp [byteOffset]
  | reserved => exact absurd rfl hr

/-- Each register stands at its offset, whatever the two low bits are (R70, R72). -/
theorem regOf_byteOffset_add (r : Reg) (hr : r ≠ .reserved) {b : Nat} (hb : b < 4) :
    regOf (BitVec.ofNat 13 (r.byteOffset + b)) = r := by
  refine regOf_of_wordOffset ?_
  have bound := r.byteOffset_lt hr
  have aligned := r.byteOffset_aligned
  rw [wordOffset_ofNat (by omega)]
  omega

/-- The offsets between the windows are reserved (R72, R80). -/
theorem regOf_reserved {off : BitVec 13}
    (h : (0x0018 ≤ wordOffset off ∧ wordOffset off < 0x0100) ∨
      (0x01E0 ≤ wordOffset off ∧ wordOffset off < 0x0200) ∨
      (0x0248 ≤ wordOffset off ∧ wordOffset off < 0x0400) ∨ 0x1400 ≤ wordOffset off) :
    regOf off = .reserved := by
  simp (disch := omega) only [regOf, if_neg, dif_neg]

/-- Settles O9: the map read backwards, and the ranges it leaves. -/
theorem registerMap : Obligations.RegisterMap := by
  intro b hb
  have reg := fun r hr => regOf_byteOffset_add r hr hb
  refine ⟨reg .id nofun, reg .status nofun, reg .cmd nofun, reg .rounds nofun,
    reg .roundcnt nofun, reg .inten nofun, fun k => reg (.pass k) nofun,
    fun k => reg (.salt k) nofun, fun k => reg (.tmpout k) nofun, fun k => reg (.out k) nofun,
    fun k => reg (.cdata k) nofun, fun i => reg (.p i) nofun, fun t k => reg (.s t k) nofun,
    fun a ha => regOf_reserved ?_⟩
  rw [wordOffset_ofNat (by omega)]
  omega

/-! ### The lanes of the byte buffers (20_memory.md R73) -/

/-- Byte `b` of a bus word (R73). -/
theorem wordOfBytes_byte (b0 b1 b2 b3 : Byte) (b : Nat) (hb : b < 4) :
    (wordOfBytes b0 b1 b2 b3).extractLsb' (8 * b) 8 = #v[b0, b1, b2, b3][b] := by
  unfold wordOfBytes
  have : b = 0 ∨ b = 1 ∨ b = 2 ∨ b = 3 := by omega
  rcases this with rfl | rfl | rfl | rfl <;>
    simp (disch := omega) only [BitVec.extractLsb'_append_eq_of_le,
      BitVec.extractLsb'_append_eq_of_add_le, Nat.reduceMul] <;>
    exact BitVec.extractLsb'_eq_self

/-- Byte `b` of bus word `k` of a buffer (R73). -/
theorem getLane_byte {n : Nat} (buf : Vector Byte n) (k : Nat) (h : 4 * k + 3 < n) (b : Nat)
    (hb : b < 4) : (getLane buf k h).extractLsb' (8 * b) 8 = buf[4 * k + b] := by
  unfold getLane
  rw [wordOfBytes_byte _ _ _ _ b hb]
  have : b = 0 ∨ b = 1 ∨ b = 2 ∨ b = 3 := by omega
  rcases this with rfl | rfl | rfl | rfl <;> rfl

/-- Every byte of a buffer after a bus write of word `k` (R73). -/
theorem getElem_setLane {n : Nat} (buf : Vector Byte n) (k : Nat) (w : Word) (h : 4 * k + 3 < n)
    (j : Nat) (hj : j < n) :
    (setLane buf k w h)[j] = if j / 4 = k then w.extractLsb' (8 * (j % 4)) 8 else buf[j] := by
  split
  · rename_i hk
    subst hk
    have e := setLane_getElem buf (j / 4) w h (j % 4) (Nat.mod_lt _ (by decide))
    simpa only [Nat.div_add_mod] using e
  · simp (disch := omega) only [setLane, Vector.getElem_set, if_neg]

/-- A second write of the same word changes nothing (R73). -/
theorem setLane_setLane {n : Nat} (buf : Vector Byte n) (k : Nat) (w : Word) (h : 4 * k + 3 < n) :
    setLane (setLane buf k w h) k w h = setLane buf k w h := by
  refine Vector.ext fun j hj => ?_
  simp only [getElem_setLane]
  split <;> rfl

/-- Every entry of the S-boxes after a write of one of them. -/
theorem getElem_setBox (v : Vector (Vector Word 256) 4) (t : Fin 4) (k : Fin 256) (w : Word)
    (i : Fin 4) (j : Fin 256) :
    (v.set t (v[t].set k w))[i][j] = if i = t ∧ j = k then w else v[i][j] := by
  simp only [Fin.getElem_fin, Vector.getElem_set, Fin.val_inj, eq_comm (a := t)]
  by_cases hi : i = t
  · subst hi
    simp [Vector.getElem_set, Fin.val_inj, eq_comm (a := k)]
  · simp [hi]

/-! ### Bus writes (20_memory.md R76) -/

section Bus

variable {off : BitVec 13} {s : State} {r : Reg}

theorem busWrite_eq (h : regOf off = r) (w : Word) (s : State) :
    busWrite off w s = writeReg w s r :=
  congrArg (writeReg w s) h

theorem busRead_eq (h : regOf off = r) (s : State) : busRead off s = readReg s r :=
  congrArg (readReg s) h

theorem writeIdle_of_busy (hb : s.busy = true) (t : State) : writeIdle t s = raiseError .busy s :=
  if_pos hb

theorem writeIdle_of_idle (hb : s.busy = false) (t : State) : writeIdle t s = t :=
  if_neg (by simp [hb])

/-- An ignored write (R76). -/
theorem writeReg_of_readOnly (w : Word) (s : State) (hr : r.isReadOnly = true) :
    writeReg w s r = s := by
  cases r with
  | id | roundcnt | tmpout | out | reserved => rfl
  | rounds | pass | salt | cdata | p | s | status | cmd | inten => nomatch hr

/-- A write to a register the running command may be using (R76). -/
theorem writeReg_of_busy (w : Word) (hb : s.busy = true) (hr : r.isData = true) :
    writeReg w s r = raiseError .busy s := by
  cases r with
  | rounds | pass | salt | cdata | p | s => exact writeIdle_of_busy hb _
  | id | status | cmd | roundcnt | inten | tmpout | out | reserved => nomatch hr

/-! ### Bus reads (20_memory.md R77) -/

theorem readIdle_of_idle (hb : s.busy = false) (w : Word) : readIdle w s = w :=
  if_neg (by simp [hb])

theorem readBack_of_idle (hb : s.busy = false) (w : Word) :
    readBack w s = if Config.stateReadback then w else 0 := by
  unfold readBack
  cases Config.stateReadback <;> simp [hb]

/-- The secret windows read 0 when STATE_READBACK is 0 (R77, D17). -/
theorem readBack_of_hidden (hc : Config.stateReadback = false) (w : Word) (s : State) :
    readBack w s = 0 := by
  simp [readBack, hc]

/-- Every window reads 0 while BUSY = 1 (R77). -/
theorem readReg_window_of_busy (hw : r.isWindow = true) (hb : s.busy = true) : readReg s r = 0 := by
  cases r with
  | tmpout | out => simp [readReg, readIdle, hb]
  | pass | salt | cdata | p | s => simp [readReg, readBack, hb]
  | id | status | cmd | rounds | roundcnt | inten | reserved => nomatch hw

/-- Byte `b` of a byte window that STATE_READBACK does not gate, read while idle (R73, R77). -/
theorem readIdle_byte {n : Nat} (buf : Vector Byte n) (k : Nat) (h : 4 * k + 3 < n)
    (hb : s.busy = false) (b : Fin 4) :
    (readIdle (getLane buf k h) s).extractLsb' (8 * b.val) 8 = buf[4 * k + b.val] := by
  rw [readIdle_of_idle hb, getLane_byte _ _ _ _ b.isLt]

/-- Byte `b` of a byte window that STATE_READBACK gates, read while idle (R73, R77). -/
theorem readBack_byte {n : Nat} (buf : Vector Byte n) (k : Nat) (h : 4 * k + 3 < n)
    (hb : s.busy = false) (b : Fin 4) :
    (readBack (getLane buf k h) s).extractLsb' (8 * b.val) 8 =
      if Config.stateReadback then buf[4 * k + b.val] else 0 := by
  rw [readBack_of_idle hb]
  split
  · exact getLane_byte _ _ _ _ b.isLt
  · exact BitVec.extractLsb'_zero

/-! ### What the bus does not show (20_memory.md R77, R86, 92_eei_decisions.md D17) -/

/-- Outside the windows a read shows the control registers alone (R77). -/
theorem readReg_control {s' : State} (hc : sameControl s s') (hw : r.isWindow = false) :
    readReg s r = readReg s' r := by
  obtain ⟨hrounds, hroundcnt, hdone, herr, hcode, hdoneie, herrie, hphase⟩ := hc
  cases r with
  | id | cmd | reserved => rfl
  | rounds => exact hrounds
  | roundcnt => exact hroundcnt
  | status =>
    simp only [readReg, State.statusWord, State.busy, State.dwait, hdone, herr, hcode, hphase]
  | inten => simp only [readReg, State.intenWord, hdoneie, herrie]
  | tmpout | out | pass | salt | cdata | p | s => nomatch hw

theorem sameControl_busy {s' : State} (hc : sameControl s s') : s.busy = s'.busy := by
  obtain ⟨-, -, -, -, -, -, -, hphase⟩ := hc
  exact busy_congr hphase

/-! ### Reads and writes together (20_memory.md R73, R74, R78) -/

/-- The state with the word of a data register replaced: what an idle write leaves (R76). -/
def writtenReg (w : Word) (s : State) : Reg → State
  | .rounds => { s with rounds := w }
  | .pass k => { s with pass := setLane s.pass k.val w (by omega) }
  | .salt k => { s with salt := setLane s.salt k.val w (by omega) }
  | .cdata k => { s with cdata := s.cdata.set k w }
  | .p i => { s with cipher := { s.cipher with p := s.cipher.p.set i w } }
  | .s t k => { s with cipher := { s.cipher with s := s.cipher.s.set t (s.cipher.s[t].set k w) } }
  | .id | .status | .cmd | .roundcnt | .inten | .tmpout _ | .out _ | .reserved => s

theorem writeReg_of_idle (w : Word) (hb : s.busy = false) (hd : r.isData = true) :
    writeReg w s r = writtenReg w s r := by
  cases r with
  | rounds | pass | salt | cdata | p | s => exact writeIdle_of_idle hb _
  | id | status | cmd | roundcnt | inten | tmpout | out | reserved => nomatch hd

theorem writtenReg_busy (w : Word) (s : State) (r : Reg) : (writtenReg w s r).busy = s.busy := by
  cases r <;> rfl

theorem writtenReg_writtenReg (w : Word) (s : State) (r : Reg) :
    writtenReg w (writtenReg w s r) r = writtenReg w s r := by
  cases r with
  | pass | salt => simp only [writtenReg, setLane_setLane]
  | cdata | p | s => simp [writtenReg, Vector.set_set]
  | rounds | id | status | cmd | roundcnt | inten | tmpout | out | reserved => rfl

/-- A word written while idle reads back (R73, R77). -/
theorem readReg_writeReg_same (w : Word) (hb : s.busy = false) (hd : r.isData = true) :
    readReg (writeReg w s r) r = if r = .rounds ∨ Config.stateReadback = true then w else 0 := by
  rw [writeReg_of_idle w hb hd]
  have back := readBack_of_idle ((writtenReg_busy w s r).trans hb) w
  cases r with
  | rounds => rfl
  | pass k | salt k => simpa [readReg, writtenReg, getLane_setLane_self] using back
  | cdata k | p k | s t k => simpa [readReg, writtenReg] using back
  | id | status | cmd | roundcnt | inten | tmpout | out | reserved => nomatch hd

/-- Every other register and window word reads as before (R73, R76). -/
theorem readReg_writeReg_other {r' : Reg} (w : Word) (hb : s.busy = false) (hd : r.isData = true)
    (hne : r' ≠ r) : readReg (writeReg w s r) r' = readReg s r' := by
  rw [writeReg_of_idle w hb hd]
  cases r with
  | id | status | cmd | roundcnt | inten | tmpout | out | reserved => nomatch hd
  | rounds =>
    cases r' with
    | rounds => exact absurd rfl hne
    | _ => rfl
  | pass k =>
    cases r' with
    | pass j =>
      exact congrArg (readBack · s) <| getLane_setLane_other s.pass j k w (by omega) (by omega)
        fun e => hne (congrArg Reg.pass (Fin.ext e))
    | _ => rfl
  | salt k =>
    cases r' with
    | salt j =>
      exact congrArg (readBack · s) <| getLane_setLane_other s.salt j k w (by omega) (by omega)
        fun e => hne (congrArg Reg.salt (Fin.ext e))
    | _ => rfl
  | cdata k =>
    cases r' with
    | cdata j =>
      exact congrArg (readBack · s) <| Vector.getElem_set_ne k.isLt j.isLt
        fun e => hne (congrArg Reg.cdata (Fin.ext e.symm))
    | _ => rfl
  | p k =>
    cases r' with
    | p j =>
      exact congrArg (readBack · s) <| Vector.getElem_set_ne k.isLt j.isLt
        fun e => hne (congrArg Reg.p (Fin.ext e.symm))
    | _ => rfl
  | s t k =>
    cases r' with
    | s i j =>
      refine congrArg (readBack · s) ((getElem_setBox s.cipher.s t k w i j).trans (if_neg ?_))
      rintro ⟨rfl, rfl⟩
      exact hne rfl
    | _ => rfl

theorem raiseError_raiseError (code : ErrCode) (s : State) :
    raiseError code (raiseError code s) = raiseError code s := by
  simp [raiseError]

theorem writeStatus_writeStatus (w : Word) (s : State) :
    writeStatus w (writeStatus w s) = writeStatus w s := by
  unfold writeStatus
  cases w.getLsbD 2 <;> simp

/-- Writing a data register twice equals writing it once (R78). -/
theorem writeReg_writeReg_data (w : Word) (s : State) (hd : r.isData = true) :
    writeReg w (writeReg w s r) r = writeReg w s r := by
  cases hb : s.busy with
  | true =>
    have hb' : (raiseError .busy s).busy = true := hb
    rw [writeReg_of_busy w hb hd, writeReg_of_busy w hb' hd, raiseError_raiseError]
  | false =>
    have hb' : (writtenReg w s r).busy = false := (writtenReg_busy w s r).trans hb
    rw [writeReg_of_idle w hb hd, writeReg_of_idle w hb' hd, writtenReg_writtenReg]

/-- The host's turn is its next action (R84). -/
theorem turnStep_host_of_nextAct {a : HostAct} {h : HostAgent} (hn : nextAct s.host = some (a, h)) :
    turnStep .host s = .next (hostAct busRead busWrite a h s) := by
  simp only [turnStep, hostStep, hn]

theorem busRead_status (s : State) : busRead 0x0004 s = s.statusWord := rfl

/-- The error check changes nothing while ERR = 0 (47_host_kdf_procedure.md R234). -/
theorem hostCheckErr_of_no_err (h : HostAgent) (he : s.err = false) :
    hostCheckErr (busRead 0x0004 s) h = h :=
  if_neg (by rw [busRead_status, statusWord_getLsbD, he]; exact Bool.false_ne_true)

end Bus

/-! ### The statements about bus reads and writes -/

/-- Settles O10: the write of each register, the busy and the idle ones by `writeIdle`. -/
theorem busWriteRules : Obligations.BusWriteRules := by
  intro s off w
  refine ⟨fun h => busWrite_eq h w s, fun h => busWrite_eq h w s, fun h => busWrite_eq h w s,
    writeReg_of_readOnly w s, writeReg_of_busy w, fun hb h => ?_, fun k hb h => ?_,
    fun k hb h => ?_, fun k hb h => ?_, fun k hb h => ?_, fun t k hb h => ?_⟩ <;>
    rw [busWrite_eq h, writeReg, writeIdle_of_idle hb]
  · exact ⟨_, rfl, fun j => getElem_setLane ..⟩
  · exact ⟨_, rfl, fun j => getElem_setLane ..⟩
  · refine ⟨_, rfl, fun j => ?_⟩
    simp [Vector.getElem_set, Fin.ext_iff, eq_comm]
  · refine ⟨_, rfl, fun j => ?_⟩
    simp [Vector.getElem_set, Fin.ext_iff, eq_comm]
  · exact ⟨_, rfl, getElem_setBox s.cipher.s t k w⟩

/-- Settles O11: the read of each register, the windows by what `readIdle` and `readBack` give. -/
theorem busReadRules : Obligations.BusReadRules := by
  intro s off
  refine ⟨fun h => busRead_eq h s, fun h => busRead_eq h s, fun h => busRead_eq h s,
    fun h => busRead_eq h s, fun h => busRead_eq h s, ?_, readReg_window_of_busy,
    fun k hb h b => ?_, fun k hb h b => ?_, fun k hb h b => ?_, fun k hb h b => ?_,
    fun k hb h => ?_, fun i hb h => ?_, fun t k hb h => ?_⟩
  · rintro (h | h) <;> exact busRead_eq h s
  all_goals rw [busRead_eq h]
  · exact readIdle_byte _ _ _ hb b
  · exact readIdle_byte _ _ _ hb b
  · exact readBack_byte _ _ _ hb b
  · exact readBack_byte _ _ _ hb b
  · exact readBack_of_idle hb _
  · exact readBack_of_idle hb _
  · exact readBack_of_idle hb _

/-- Settles O48: a window reads 0 and any other register shows the control registers. -/
theorem busyHidesIntermediateValues : Obligations.BusyHidesIntermediateValues := by
  intro s s' hb hc off
  cases hw : (regOf off).isWindow with
  | false => exact readReg_control hc hw
  | true =>
    have hb' : s'.busy = true := sameControl_busy hc ▸ hb
    exact (readReg_window_of_busy hw hb).trans (readReg_window_of_busy hw hb').symm

/-- Settles O49: a secret window reads 0, TMPOUT and OUT agree, and any other register shows the
control registers. -/
theorem noReadbackHidesTheSecrets : Obligations.NoReadbackHidesTheSecrets := by
  intro s s' hc ht ho off
  cases hr : Config.stateReadback with
  | true => exact .inl rfl
  | false =>
    right
    unfold busRead
    cases regOf off with
    | tmpout | out => simp only [readReg, readIdle, ht, ho, sameControl_busy hc]
    | pass | salt | cdata | p | s => simp only [readReg, readBack_of_hidden hr]
    | id | status | cmd | rounds | roundcnt | inten | reserved => exact readReg_control hc rfl

/-- Settles O12: a data register reads the word just written, and no other register shows it. -/
theorem readAfterWrite : Obligations.ReadAfterWrite := by
  intro s off off' w hb hd
  exact ⟨readReg_writeReg_same w hb hd, readReg_writeReg_other w hb hd⟩

/-- Settles O13: each reading action by the definition of the host's actions, each named write by
its register, and NOP submitted twice raises BUSY. -/
theorem readsAndRepeatedWrites : Obligations.ReadsAndRepeatedWrites := by
  refine ⟨fun s h => ⟨fun off hn => turnStep_host_of_nextAct hn, fun hn => ?_, fun hn => ?_,
    fun k hn => turnStep_host_of_nextAct hn⟩, fun s off w hr => ?_, State.reset, 0, ?_⟩
  · simp only [turnStep_host_of_nextAct hn, hostAct, busRead_status, statusWord_getLsbD]
  · exact ⟨_, turnStep_host_of_nextAct hn, hostCheckErr_of_no_err h⟩
  · rcases hr with hr | hr | hr
    · simp only [busWrite_status hr, writeStatus_writeStatus]
    · simp only [busWrite_eq hr, writeReg, writeInten]
    · exact writeReg_writeReg_data w s hr
  · exact fun h => absurd (congrArg State.err h) (by decide)

end Sys2Proof.Machine
end

section
/-! Proofs of the statements about the digest port (20_memory.md R95 to R97) and REHASH
(42_cmd_hash_kdf.md R206). -/

namespace Sys2Proof.Machine

/-! ### The lanes of the digest port (20_memory.md R96) -/

theorem packBytes_cons (n : Nat) (b : Byte) (bytes : List Byte) :
    packBytes n (b :: bytes) = (packBytes n bytes <<< 8) ||| b.setWidth n := rfl

/-- Bit `j` of byte `i` stands in bit `8i + j` of the port (R96). -/
theorem packBytes_getLsbD {n : Nat} (bytes : List Byte) (hn : 8 * bytes.length ≤ n) (i : Nat)
    (hi : i < bytes.length) (j : Nat) (hj : j < 8) :
    (packBytes n bytes).getLsbD (8 * i + j) = bytes[i].getLsbD j := by
  induction bytes generalizing i with
  | nil => exact absurd hi (Nat.not_lt_zero i)
  | cons b bytes ih =>
    rw [List.length_cons] at hn hi
    rw [packBytes_cons, BitVec.getLsbD_or, BitVec.getLsbD_shiftLeft, BitVec.getLsbD_setWidth]
    cases i with
    | zero => simp [hj, show j < n by omega]
    | succ i =>
      have e := ih (by omega) i (by omega)
      simp [show ¬ 8 * (i + 1) + j < 8 by omega, show 8 * (i + 1) + j < n by omega,
        show 8 * (i + 1) + j - 8 = 8 * i + j by omega, e,
        BitVec.getLsbD_of_ge b (8 * (i + 1) + j) (by omega)]

/-- Byte `i` of what a port carries (R96). -/
theorem packBytes_byte {n m : Nat} (bytes : Vector Byte m) (hn : 8 * m ≤ n) (i : Nat)
    (hi : i < m) : (packBytes n bytes.toList).extractLsb' (8 * i) 8 = bytes[i] := by
  refine BitVec.eq_of_getLsbD_eq fun j hj => ?_
  rw [BitVec.getLsbD_extractLsb',
    packBytes_getLsbD _ (by simpa using hn) i (by simpa using hi) j hj]
  simp [hj]

/-! ### The digest agent's turn (20_memory.md R97, 42_cmd_hash_kdf.md R210) -/

theorem digestStep_of_request {s : State} {m : Vector Byte 32} (hp : s.phase = .wait)
    (hd : s.dreq = some m) :
    digestStep s = { s with salt := Config.digest m.toList, dreq := none, phase := .run } := by
  unfold digestStep; rw [hp, hd]

/-- A response is not accepted outside phase WAIT or without a request (20_memory.md R97). -/
theorem digestStep_of_no_request {s : State} (h : s.phase ≠ .wait ∨ s.dreq = none) :
    digestStep s = s := by
  rcases digestStep_cases s with ⟨hp, m, hd, -⟩ | ⟨-, e⟩
  · rcases h with h | h
    · exact absurd hp h
    · exact nomatch h.symm.trans hd
  · exact e

/-- Settles O46: the digest agent's step is the identity there. -/
theorem unsolicitedDigestIgnored : Obligations.UnsolicitedDigestIgnored := by
  intro s h
  exact congrArg Host.Outcome.next (digestStep_of_no_request h)

/-- Settles O47: both directions are byte lanes of `packBytes`. -/
theorem digestPortLanes : Obligations.DigestPortLanes := by
  intro s m hp hd
  refine ⟨⟨packBytes 256 m.toList, ?_, fun i => packBytes_byte m (by decide) i i.isLt⟩, _,
    rfl, fun i => ?_⟩
  · rw [dgReqData, hd]; rfl
  · rw [digestStep_of_request hp hd]
    exact (packBytes_byte (Config.digest m.toList) (by decide) i i.isLt).symm

/-! ### Commands without operands, and acceptance (30_encoding.md R119, 60_exceptions.md R260) -/

/-- No defined opcode without operands is above 0x0C, or EXPAND, EXPAND0 or ENCRYPT (R118). -/
theorem op_of_plainOfOp : ∀ op : BitVec 8, plainOfOp op ≠ none →
    ¬ 0x0C < op ∧ op ≠ 0x02 ∧ op ≠ 0x03 ∧ op ≠ 0x05 := by decide

/-- The bits above OP are RES and the operand fields (R111). -/
theorem upper_eq_zero {w : Word} (hres : resField w = 0) (hlow : w.extractLsb' 8 19 = 0) :
    w.extractLsb' 8 24 = 0 := by
  have h27 := congrArg BitVec.toNat hres
  have h8 := congrArg BitVec.toNat hlow
  refine BitVec.eq_of_toNat_eq ?_
  simp only [resField, BitVec.extractLsb'_toNat, Nat.shiftRight_eq_div_pow, BitVec.ofNat_eq_ofNat,
    BitVec.toNat_ofNat] at h27 h8 ⊢
  omega

/-- A command without operands admits no other bit in its word (R119). -/
theorem decode_badField_of_plain {w : Word} {i : Instr} (hp : plainOfOp (opField w) = some i)
    (hw : w.extractLsb' 8 24 ≠ 0) : decode w = .error .badField := by
  obtain ⟨hle, h2, h3, h5⟩ := op_of_plainOfOp (opField w) (by rw [hp]; nofun)
  unfold decode
  rw [if_neg hle, if_neg h2, if_neg h3, if_neg h5]
  split
  · rfl
  · rename_i hres
    have hlow : w.extractLsb' 8 19 ≠ 0 := fun hlow => hw (upper_eq_zero (not_not.1 hres) hlow)
    simp only [decodePlain, hp, if_neg hlow]

/-- The one word of a command without operands (R119). -/
theorem onlyWord_of_plain {i : Instr} {w0 : Word} (he : encode i = w0) (hd : decode w0 = .ok i)
    (hp : plainOfOp (opField w0) = some i) : onlyWord i w0 :=
  ⟨he, hd, fun w hop hw =>
    decode_badField_of_plain (w := w) (by rw [opField, hop]; exact hp) hw⟩

/-- A word that decodes is accepted while the core is idle, KDFBLK with ROUNDS not 0 (R260). -/
theorem submit_of_idle {s : State} {w : Word} {i : Instr} (hb : s.busy = false)
    (hd : decode w = .ok i) (hk : i = .kdfblk → s.rounds ≠ 0) : submit w s = accept i w s := by
  unfold submit
  rw [if_neg (by simp [hb]), hd]
  exact if_neg fun h => hk h.1 h.2

/-! ### The core's turn, and the core and the digest agent alone (42_cmd_hash_kdf.md R210) -/

/-- The core's turn in phase RUN is a core step of its command. -/
theorem coreStep_of_run {s : State} {i : Instr} (hp : s.phase = .run) (hd : decode s.cur = .ok i) :
    coreStep s = exec i s := by
  simp only [coreStep, hp, fetchInstr, hd]

theorem coreStep_of_not_run {s : State} (hp : s.phase ≠ .run) : coreStep s = .next s := by
  unfold coreStep
  cases h : s.phase with
  | run => exact absurd h hp
  | idle | wait => rfl

theorem runToIdle_of_idle {s : State} (hp : s.phase = .idle) (fuel : Nat) :
    runToIdle fuel s = .next s := by
  cases fuel with
  | zero => rfl
  | succ fuel => rw [runToIdle, hp]

theorem runToIdle_of_run {s t : State} {i : Instr} (hp : s.phase = .run) (hd : decode s.cur = .ok i)
    (he : exec i s = .next t) (fuel : Nat) : runToIdle (fuel + 1) s = runToIdle fuel t := by
  rw [runToIdle, hp]
  simp only [coreStep_of_run hp hd, he]

theorem runToIdle_of_wait {s : State} (hp : s.phase = .wait) (fuel : Nat) :
    runToIdle (fuel + 1) s = runToIdle fuel (digestStep s) := by
  rw [runToIdle, hp]

/-! ### The two commands that resume (42_cmd_hash_kdf.md R206, R208, R210) -/

theorem exec_rehash_top {s : State} (h : s.ret = .top) :
    exec .rehash s = .next (requestDigest s) := by
  unfold exec execRehash; dsimp only; rw [h]

theorem exec_rehash_afterDigest {s : State} (h : s.ret = .afterDigest) :
    exec .rehash s = .next (complete s) := by
  unfold exec execRehash; dsimp only; rw [h]

theorem exec_kdfblk_top {s : State} (h : s.ret = .top) :
    exec .kdfblk s = .next (kdfLoop (kdfFirstRound s)) := by
  unfold exec execKdfblk; dsimp only; rw [h]

theorem exec_kdfblk_afterDigest {s : State} (h : s.ret = .afterDigest) :
    exec .kdfblk s = .next (kdfLoop (kdfNextRound s)) := by
  unfold exec execKdfblk; dsimp only; rw [h]

/-- Settles O34: the three steps of REHASH, alone and in the run of `DO REHASH`. -/
theorem rehashReplacesSalt : Obligations.RehashReplacesSalt := by
  have hd : decode 0x0000000A = .ok .rehash := by decide
  refine ⟨onlyWord_of_plain (by decide) hd (by decide), fun s => exec_rehash_top,
    fun s m hp hm => congrArg Host.Outcome.next (digestStep_of_request hp hm),
    fun s => exec_rehash_afterDigest, fun s hb => ⟨.afterDigest, ?_⟩⟩
  have hw : busWrite 0x0008 (encode .rehash) s = accept .rehash 0x0000000A s :=
    submit_of_idle hb hd nofun
  rw [doCommand, hw, runToIdle_of_run rfl hd (exec_rehash_top rfl), runToIdle_of_wait rfl,
    digestStep_of_request rfl rfl, runToIdle_of_run rfl hd (exec_rehash_afterDigest rfl),
    runToIdle_of_idle rfl]
  have hp := (busy_eq_false_iff s).1 hb
  cases s
  cases hp
  rfl

end Sys2Proof.Machine
end

section
/-! Proofs of the statements about running commands (20_memory.md R76, R85, R98): what the host can
disturb, and when a command completes. -/

namespace Sys2Proof.Machine

/-! ### What the host can change while a command runs (20_memory.md R76, R79) -/

/-- The bits that belong to the host while a command runs: DONE, ERR, ERRCODE and INTEN. -/
structure HostBits where
  done : Bool
  err : Bool
  errcode : ErrCode
  doneie : Bool
  errie : Bool

def State.hostBits (s : State) : HostBits := ⟨s.done, s.err, s.errcode, s.doneie, s.errie⟩

def State.withHostBits (s : State) (b : HostBits) : State :=
  { s with done := b.done, err := b.err, errcode := b.errcode, doneie := b.doneie
           errie := b.errie }

/-- While BUSY = 1 a bus write reaches the host's bits alone (R76). -/
theorem WriteEffect.of_busy {w : Word} {s t : State} (h : WriteEffect w s t) (hb : s.busy = true) :
    t = s.withHostBits t.hostBits := by
  cases h with
  | same | error | status | inten => rfl
  | accept i idle | data idle => exact nomatch hb.symm.trans idle

/-- While BUSY = 1 a host step reaches the host's bits and the host alone (R76, R78). -/
theorem hostStep_of_busy {s : State} (hb : s.busy = true) :
    ∃ h, hostStep s = { s.withHostBits (hostStep s).hostBits with host := h } := by
  obtain ⟨h, e | ⟨off, w, e⟩⟩ := hostStep_cases s
  · exact ⟨h, by rw [e]; rfl⟩
  · refine ⟨h, ?_⟩
    rw [e]
    exact (busWrite_effect off w { s with host := h }).of_busy hb

theorem withHostBits_buf (s : State) (b : HostBits) (sel : Sel) :
    (s.withHostBits b).buf sel = s.buf sel := by
  cases sel <;> rfl

theorem withHostBits_cipher (s : State) (b : HostBits) : (s.withHostBits b).cipher = s.cipher := rfl

theorem kdfLoop_withHostBits (s : State) (b : HostBits) :
    ∃ d, kdfLoop (s.withHostBits b) = (kdfLoop s).withHostBits { b with done := d } := by
  unfold kdfLoop
  change ∃ d, (if s.roundcnt < s.rlat then _ else _) = _
  split
  · exact ⟨b.done, rfl⟩
  · exact ⟨true, rfl⟩

/-- A core step does not read the host's bits, and of these writes DONE alone (R79). -/
theorem exec_withHostBits {i : Instr} {s t : State} (h : exec i s = .next t) (b : HostBits) :
    ∃ d, exec i (s.withHostBits b) = .next (t.withHostBits { b with done := d }) := by
  cases i with
  | rehash =>
    cases hr : s.ret with
    | top =>
      cases (exec_rehash_top hr).symm.trans h
      exact ⟨b.done, exec_rehash_top hr⟩
    | afterDigest =>
      cases (exec_rehash_afterDigest hr).symm.trans h
      exact ⟨true, exec_rehash_afterDigest hr⟩
  | kdfblk =>
    cases hr : s.ret with
    | top =>
      cases (exec_kdfblk_top hr).symm.trans h
      obtain ⟨d, e⟩ := kdfLoop_withHostBits (kdfFirstRound s) b
      exact ⟨d, (exec_kdfblk_top (s := s.withHostBits b) hr).trans (congrArg _ e)⟩
    | afterDigest =>
      cases (exec_kdfblk_afterDigest hr).symm.trans h
      obtain ⟨d, e⟩ := kdfLoop_withHostBits (kdfNextRound s) b
      exact ⟨d, (exec_kdfblk_afterDigest (s := s.withHostBits b) hr).trans (congrArg _ e)⟩
  | expand data key =>
    obtain rfl := Host.Outcome.next.inj h
    refine ⟨true, ?_⟩
    simp only [exec, execExpand, withHostBits_buf, withHostBits_cipher]
    rfl
  | expand0 key =>
    obtain rfl := Host.Outcome.next.inj h
    refine ⟨true, ?_⟩
    simp only [exec, execExpand0, withHostBits_buf, withHostBits_cipher]
    rfl
  | nop | init | loadmagic | encrypt | serialize | bhash | accload | accxor | wipe =>
    obtain rfl := Host.Outcome.next.inj h
    exact ⟨true, rfl⟩

/-- Settles O50: the write reaches the host's bits alone, which the core step does not read. -/
theorem hostCannotDisturbARunningCommand : Obligations.HostCannotDisturbARunningCommand := by
  intro i s t off w hb h
  obtain ⟨d, e⟩ := exec_withHostBits h (busWrite off w s).hostBits
  rw [(busWrite_effect off w s).of_busy hb]
  exact ⟨_, e, rfl⟩

/-! ### Steps and runs (20_memory.md R85) -/

/-- A step is the next turn, taken off the schedule. -/
theorem step_eq (s : State) :
    step s = turnStep (nextTurn s) { s with sched := s.sched.tail } := by
  unfold step nextTurn
  cases hs : s.sched with
  | nil => cases s; cases hs; rfl
  | cons turn rest => rfl

theorem WriteEffect.order_eq {w : Word} {s t : State} (h : WriteEffect w s t) :
    t.sched = s.sched ∧ t.order = s.order := by
  cases h with
  | accept => exact ⟨accept_sched .., accept_order ..⟩
  | same | error | status | inten | data => exact ⟨rfl, rfl⟩

/-- No turn changes the order of the turns to come (R85). -/
theorem turnStep_order {turn : Turn} {s t : State} (h : turnStep turn s = .next t) :
    t.sched = s.sched ∧ t.order = s.order := by
  cases turn with
  | host =>
    cases h
    obtain ⟨host, e | ⟨off, w, e⟩⟩ := hostStep_cases s <;> rw [e]
    · exact ⟨rfl, rfl⟩
    · exact (busWrite_effect off w _).order_eq
  | core =>
    obtain ⟨-, rfl⟩ | ⟨-, i, -, he⟩ := coreStep_cases h
    · exact ⟨rfl, rfl⟩
    · exact ⟨(exec_frame he).sched, (exec_frame he).order⟩
  | digest =>
    cases h
    obtain ⟨-, m, -, e⟩ | ⟨-, e⟩ := digestStep_cases s <;> rw [e] <;> exact ⟨rfl, rfl⟩
  | reset => cases h; exact ⟨rfl, rfl⟩
  | resetHost =>
    cases h
    obtain ⟨host, e⟩ := resetHostStep_core s
    rw [e]
    exact ⟨rfl, rfl⟩

/-- A step takes one turn off the schedule. -/
theorem step_order {s t : State} (h : step s = .next t) :
    t.sched = s.sched.tail ∧ t.order = s.order :=
  turnStep_order ((step_eq s).symm.trans h)

theorem run_of_step {s t : State} (h : step s = .next t) (n : Nat) :
    Sys2Proof.core.run (n + 1) s = Sys2Proof.core.run n t := by
  have hc : Sys2Proof.core.step s = .next t := h
  simp only [Host.Core.run, hc]

/-- A run begins with a step that goes on. -/
theorem step_of_run {n : Nat} {s u : State} (h : Sys2Proof.core.run (n + 1) s = .next u) :
    ∃ t, step s = .next t ∧ Sys2Proof.core.run n t = .next u := by
  simp only [Host.Core.run] at h
  split at h
  · rename_i t hs; exact ⟨t, hs, h⟩
  · exact nomatch h
  · exact nomatch h

/-- A run may be cut in two. -/
theorem run_add {m : Nat} {s t : State} (h : Sys2Proof.core.run m s = .next t) (n : Nat) :
    Sys2Proof.core.run (m + n) s = Sys2Proof.core.run n t := by
  induction m generalizing s with
  | zero => cases h; rw [Nat.zero_add]
  | succ m ih =>
    obtain ⟨s', hs, hr⟩ := step_of_run h
    rw [Nat.succ_add, run_of_step hs]
    exact ih hr

/-- What every step keeps, every run keeps. -/
theorem run_keeps {P : State → Prop} (keeps : ∀ {s t}, P s → step s = .next t → P t)
    {n : Nat} {s t : State} (hs : P s) (h : Sys2Proof.core.run n s = .next t) : P t := by
  induction n generalizing s with
  | zero => cases h; exact hs
  | succ n ih =>
    obtain ⟨s', hs', hr⟩ := step_of_run h
    exact ih (keeps hs hs') hr

theorem step_keeps_inv {s t : State} (hs : s.Inv) (h : step s = .next t) : t.Inv :=
  stepKeepsTheInvariant s t hs h

/-- A command's core step always goes on (60_exceptions.md R267). -/
theorem exec_next (i : Instr) (s : State) : ∃ t, exec i s = .next t := by
  cases i with
  | rehash =>
    cases hr : s.ret with
    | top => exact ⟨_, exec_rehash_top hr⟩
    | afterDigest => exact ⟨_, exec_rehash_afterDigest hr⟩
  | kdfblk =>
    cases hr : s.ret with
    | top => exact ⟨_, exec_kdfblk_top hr⟩
    | afterDigest => exact ⟨_, exec_kdfblk_afterDigest hr⟩
  | nop | init | expand | expand0 | loadmagic | encrypt | serialize | bhash | accload | accxor
  | wipe => exact ⟨_, rfl⟩

theorem State.Inv.turnStep_next {s : State} (hs : s.Inv) (turn : Turn) :
    ∃ t, turnStep turn s = .next t := by
  cases turn with
  | core =>
    by_cases hp : s.phase = .run
    · obtain ⟨i, hd⟩ := hs.running_decodes ((busy_eq_true_iff s).2 (.inl hp))
      obtain ⟨t, he⟩ := exec_next i s
      exact ⟨t, (coreStep_of_run hp hd).trans he⟩
    · exact ⟨s, coreStep_of_not_run hp⟩
  | host | digest | reset | resetHost => exact ⟨_, rfl⟩

/-- From a state that meets the invariant the machine steps on (R265, R267). -/
theorem State.Inv.step_next {s : State} (hs : s.Inv) : ∃ t, step s = .next t := by
  obtain ⟨t, h⟩ := (hs.frame (sched := s.sched.tail)).turnStep_next (nextTurn s)
  exact ⟨t, (step_eq s).trans h⟩

/-! ### The fair order gives weakly fair runs (20_memory.md R98) -/

/-- A run gets through its schedule. -/
theorem State.Inv.run_to_schedule_end {s : State} (hs : s.Inv) :
    ∃ n t, Sys2Proof.core.run n s = .next t ∧ t.sched = [] := by
  induction h : s.sched generalizing s with
  | nil => exact ⟨0, s, rfl, h⟩
  | cons turn rest ih =>
    obtain ⟨s', hs'⟩ := hs.step_next
    have hr : s'.sched = rest := by rw [(step_order hs').1, h, List.tail_cons]
    obtain ⟨n, t, ht⟩ := ih (step_keeps_inv hs hs') hr
    exact ⟨n + 1, t, (run_of_step hs' n).trans ht.1, ht.2⟩

theorem fair_weaklyFair {s : State} (hs : s.Inv) (ho : s.order = .fair) : weaklyFair s := by
  intro n t h
  have ht : t.Inv ∧ t.order = .fair :=
    run_keeps (P := fun s => s.Inv ∧ s.order = .fair)
      (fun hs h => ⟨step_keeps_inv hs.1 h, (step_order h).2.trans hs.2⟩) ⟨hs, ho⟩ h
  obtain ⟨m, u, hu, hsched⟩ := ht.1.run_to_schedule_end
  have hou : u.order = .fair :=
    run_keeps (P := fun s => s.order = .fair) (fun hs h => (step_order h).2.trans hs) ht.2 hu
  have hnext : nextTurn u = defaultTurn u := by unfold nextTurn; rw [hsched]
  refine ⟨m, u, hu, fun _ => ?_, fun _ => ?_⟩
  · exact not_or_of_imp fun hp => hnext.trans (defaultTurn_run hp)
  · exact not_or_of_imp fun hp => hnext.trans (defaultTurn_wait_fair hp hou)

/-! ### A running command comes to its end (60_exceptions.md R269) -/

/-- A bound on the turns of the core and the digest agent the running command still takes: two a
round. -/
def turnsLeft (s : State) : Nat :=
  match s.phase, s.ret with
  | .idle, _ => 0
  | .run, .top => 2 * s.rlat.toNat + 3
  | .run, .afterDigest => 2 * (s.rlat.toNat - s.roundcnt.toNat) + 1
  | .wait, _ => 2 * (s.rlat.toNat - s.roundcnt.toNat) + 2

section TurnsLeft

variable {s t : State}

theorem turnsLeft_run_top (hp : s.phase = .run) (hr : s.ret = .top) :
    turnsLeft s = 2 * s.rlat.toNat + 3 := by
  rw [turnsLeft, hp, hr]

theorem turnsLeft_run_afterDigest (hp : s.phase = .run) (hr : s.ret = .afterDigest) :
    turnsLeft s = 2 * (s.rlat.toNat - s.roundcnt.toNat) + 1 := by
  rw [turnsLeft, hp, hr]

theorem turnsLeft_wait (hp : s.phase = .wait) :
    turnsLeft s = 2 * (s.rlat.toNat - s.roundcnt.toNat) + 2 := by
  rw [turnsLeft, hp]

theorem turnsLeft_congr (hp : t.phase = s.phase) (hr : t.ret = s.ret) (hl : t.rlat = s.rlat)
    (hc : t.roundcnt = s.roundcnt) : turnsLeft t = turnsLeft s := by
  rw [turnsLeft, turnsLeft, hp, hr, hl, hc]

/-- The number is 0 in phase IDLE, odd in phase RUN and even in phase WAIT. -/
theorem phase_eq_of_turnsLeft (s : State) : s.phase =
    if turnsLeft s = 0 then .idle else if turnsLeft s % 2 = 1 then .run else .wait := by
  unfold turnsLeft
  split
  · rename_i hp; exact hp
  · rename_i hp _; rw [hp, if_neg (by omega), if_pos (by omega)]
  · rename_i hp _; rw [hp, if_neg (by omega), if_pos (by omega)]
  · rename_i hp; rw [hp, if_neg (by omega), if_neg (by omega)]

/-- The command that ran is complete (60_exceptions.md R268). -/
def Completed (s : State) : Prop := s.phase = .idle ∧ s.done = true

theorem kdfLoop_rlat (s : State) : (kdfLoop s).rlat = s.rlat := by
  rcases kdfLoop_cases s with ⟨-, e⟩ | ⟨-, e⟩ <;> rw [e] <;> rfl

theorem kdfLoop_roundcnt (s : State) : (kdfLoop s).roundcnt = s.roundcnt := by
  rcases kdfLoop_cases s with ⟨-, e⟩ | ⟨-, e⟩ <;> rw [e] <;> rfl

/-- A core step completes the command or leaves it waiting with fewer turns to come. -/
theorem exec_turnsLeft_lt {i : Instr} (hs : s.Inv) (hp : s.phase = .run)
    (hd : decode s.cur = .ok i) (h : exec i s = .next t) :
    Completed t ∨ (t.phase = .wait ∧ turnsLeft t < turnsLeft s) := by
  obtain ⟨u, hw, he⟩ := exec_cases h
  cases he with
  | completes => exact .inl ⟨rfl, rfl⟩
  | requests hi =>
    refine .inr ⟨rfl, ?_⟩
    obtain rfl | ⟨rfl, -⟩ := hi
    · cases hr : s.ret with
      | top =>
        have e := Host.Outcome.next.inj ((exec_rehash_top hr).symm.trans h)
        rw [turnsLeft_run_top hp hr, ← e, turnsLeft_wait rfl]
        simp only [requestDigest_rlat]
        omega
      | afterDigest =>
        have e := Host.Outcome.next.inj ((exec_rehash_afterDigest hr).symm.trans h)
        exact nomatch congrArg State.phase e
    · have hlt : s.roundcnt.toNat < s.rlat.toNat :=
        (hs.kdf_latch ((busy_eq_true_iff s).2 (.inl hp)) hd).2
      rw [turnsLeft_wait rfl]
      cases hr : s.ret with
      | top =>
        have e := Host.Outcome.next.inj ((exec_kdfblk_top hr).symm.trans h)
        rw [turnsLeft_run_top hp hr, ← e, kdfLoop_rlat, kdfLoop_roundcnt]
        simp only [kdfFirstRound_rlat, kdfFirstRound_roundcnt]
        omega
      | afterDigest =>
        have e := Host.Outcome.next.inj ((exec_kdfblk_afterDigest hr).symm.trans h)
        rw [turnsLeft_run_afterDigest hp hr, ← e, kdfLoop_rlat, kdfLoop_roundcnt]
        simp only [kdfNextRound_rlat, kdfNextRound_roundcnt]
        bv_omega

/-- The turn that the weakly fair run owes the running command (20_memory.md R98). -/
def Enabled (turn : Turn) (s : State) : Prop :=
  (s.phase = .run ∧ turn = .core) ∨ (s.phase = .wait ∧ turn = .digest)

/-- An enabled turn completes the command or leaves it fewer turns. -/
theorem turnStep_turnsLeft_lt {turn : Turn} (hs : s.Inv) (hen : Enabled turn s)
    (h : turnStep turn s = .next t) :
    Completed t ∨ (t.busy = true ∧ turnsLeft t < turnsLeft s) := by
  obtain ⟨hp, rfl⟩ | ⟨hp, rfl⟩ := hen
  · obtain ⟨hn, -⟩ | ⟨-, i, hd, he⟩ := coreStep_cases h
    · exact absurd hp hn
    · refine (exec_turnsLeft_lt hs hp hd he).imp_right fun ht => ⟨?_, ht.2⟩
      exact (busy_eq_true_iff t).2 (.inr ht.1)
  · have e := (digestStep_of_request hp (hs.wait_message hp)).symm.trans (Host.Outcome.next.inj h)
    subst e
    refine .inr ⟨rfl, ?_⟩
    rw [turnsLeft_wait hp]
    exact lt_of_eq_of_lt (turnsLeft_run_afterDigest rfl (hs.wait_resume hp)) (Nat.lt_succ_self _)

/-- A turn that is no reset completes the command or leaves it no more turns: the host reaches
nothing the number is counted from, and a turn that is not enabled does nothing. -/
theorem turnStep_turnsLeft_le {turn : Turn} (hs : s.Inv) (hb : s.busy = true)
    (hr : turn ≠ .reset ∧ turn ≠ .resetHost) (h : turnStep turn s = .next t) :
    Completed t ∨ (t.busy = true ∧ turnsLeft t ≤ turnsLeft s) := by
  by_cases hen : Enabled turn s
  · exact (turnStep_turnsLeft_lt hs hen h).imp_right (And.imp_right Nat.le_of_lt)
  right
  cases turn with
  | host =>
    cases h
    obtain ⟨host, e⟩ := hostStep_of_busy hb
    rw [e]
    exact ⟨hb, (turnsLeft_congr rfl rfl rfl rfl).le⟩
  | core =>
    have hp : s.phase ≠ .run := fun hp => hen (.inl ⟨hp, rfl⟩)
    cases (coreStep_of_not_run hp).symm.trans h
    exact ⟨hb, Nat.le_refl _⟩
  | digest =>
    have hp : s.phase ≠ .wait := fun hp => hen (.inr ⟨hp, rfl⟩)
    obtain rfl := (digestStep_of_no_request (.inl hp)).symm.trans (Host.Outcome.next.inj h)
    exact ⟨hb, Nat.le_refl _⟩
  | reset => exact absurd rfl hr.1
  | resetHost => exact absurd rfl hr.2

end TurnsLeft

/-! ### Completion on a weakly fair run -/

/-- No default turn is a reset. -/
theorem defaultTurn_not_reset (s : State) :
    defaultTurn s ≠ .reset ∧ defaultTurn s ≠ .resetHost := by
  unfold defaultTurn
  cases s.phase <;> cases s.order <;> exact ⟨nofun, nofun⟩

theorem nextTurn_not_reset {s : State} (hs : noReset s) :
    nextTurn s ≠ .reset ∧ nextTurn s ≠ .resetHost := by
  unfold nextTurn
  cases h : s.sched with
  | nil => exact defaultTurn_not_reset s
  | cons turn rest => exact hs turn (by rw [h]; exact List.mem_cons_self)

/-- A running command, in a state that meets the invariant and with no reset to come. -/
structure Running (s : State) : Prop where
  inv : s.Inv
  no_reset : noReset s
  busy : s.busy = true

section Running

variable {s t u : State}

theorem Running.keeps (hs : Running s) (h : step s = .next t) (hb : t.busy = true) : Running t where
  inv := step_keeps_inv hs.inv h
  no_reset turn ht := hs.no_reset turn (List.mem_of_mem_tail ((step_order h).1 ▸ ht))
  busy := hb

/-- A step completes the command or leaves it no more turns. -/
theorem Running.step_le (hs : Running s) (h : step s = .next t) :
    Completed t ∨ (Running t ∧ turnsLeft t ≤ turnsLeft s) :=
  (turnStep_turnsLeft_le (hs.inv.frame (sched := s.sched.tail)) hs.busy
    (nextTurn_not_reset hs.no_reset) ((step_eq s).symm.trans h)).imp_right
    fun ht => ⟨hs.keeps h ht.1, ht.2⟩

/-- A step of an enabled agent completes the command or leaves it fewer turns. -/
theorem Running.step_lt (hs : Running s) (hen : Enabled (nextTurn s) s) (h : step s = .next t) :
    Completed t ∨ (Running t ∧ turnsLeft t < turnsLeft s) :=
  (turnStep_turnsLeft_lt (hs.inv.frame (sched := s.sched.tail)) hen
    ((step_eq s).symm.trans h)).imp_right fun ht => ⟨hs.keeps h ht.1, ht.2⟩

/-- Some run from `s` ends with the command complete. -/
def Completes (s : State) : Prop := ∃ n t, Sys2Proof.core.run n s = .next t ∧ Completed t

theorem Completes.of_run {n : Nat} (h : Sys2Proof.core.run n s = .next t) (ht : Completes t) :
    Completes s := by
  obtain ⟨m, u, hu, hc⟩ := ht
  exact ⟨n + m, u, (run_add h m).trans hu, hc⟩

/-- On the way of a run the command completes, or it is still running with no more turns. -/
theorem Running.run_le {n : Nat} (hs : Running s) (h : Sys2Proof.core.run n s = .next t) :
    Completes s ∨ (Running t ∧ turnsLeft t ≤ turnsLeft s) := by
  induction n generalizing s with
  | zero => cases h; exact .inr ⟨hs, Nat.le_refl _⟩
  | succ n ih =>
    obtain ⟨s', hs', hr⟩ := step_of_run h
    have one : Sys2Proof.core.run 1 s = .next s' := run_of_step hs' 0
    obtain hc | ⟨hrun, hle⟩ := hs.step_le hs'
    · exact .inl ⟨1, s', one, hc⟩
    · obtain hc | ⟨ht, hle'⟩ := ih hrun hr
      · exact .inl (.of_run one hc)
      · exact .inr ⟨ht, hle'.trans hle⟩

theorem weaklyFair_of_run {n : Nat} (hf : weaklyFair s) (h : Sys2Proof.core.run n s = .next t) :
    weaklyFair t :=
  fun m u hu => hf (n + m) u ((run_add h m).trans hu)

/-- On a weakly fair run the command completes or comes to have fewer turns left: the agent it waits
for moves, or has moved. -/
theorem Running.fewer_turnsLeft (hs : Running s) (hf : weaklyFair s) :
    Completes s ∨
      ∃ n t, Sys2Proof.core.run n s = .next t ∧ Running t ∧ turnsLeft t < turnsLeft s := by
  obtain ⟨n, t, ht, hrun, hwait⟩ := hf 0 s rfl
  obtain hc | ⟨hr, hle⟩ := hs.run_le ht
  · exact .inl hc
  obtain hlt | heq := Nat.lt_or_eq_of_le hle
  · exact .inr ⟨n, t, ht, hr, hlt⟩
  have hphase : t.phase = s.phase := by
    rw [phase_eq_of_turnsLeft t, heq, ← phase_eq_of_turnsLeft s]
  have hen : Enabled (nextTurn t) t :=
    ((busy_eq_true_iff t).1 hr.busy).imp
      (fun hp => ⟨hp, (hrun (hphase ▸ hp)).resolve_left (absurd hp)⟩)
      (fun hp => ⟨hp, (hwait (hphase ▸ hp)).resolve_left (absurd hp)⟩)
  obtain ⟨u, hu⟩ := hr.inv.step_next
  have reach : Sys2Proof.core.run (n + 1) s = .next u := (run_add ht 1).trans (run_of_step hu 0)
  obtain hc | ⟨hru, hlt⟩ := hr.step_lt hen hu
  · exact .inl ⟨n + 1, u, reach, hc⟩
  · exact .inr ⟨n + 1, u, reach, hru, heq ▸ hlt⟩

theorem Running.completes (hs : Running s) (hf : weaklyFair s) : Completes s := by
  induction h : turnsLeft s using Nat.strong_induction_on generalizing s with
  | _ k ih =>
    obtain hc | ⟨n, t, ht, hr, hlt⟩ := hs.fewer_turnsLeft hf
    · exact hc
    · exact .of_run ht (ih _ (h ▸ hlt) hr (weaklyFair_of_run hf ht) rfl)

end Running

/-- Settles O59: the fair order reaches the end of any schedule and then moves the enabled agent,
and on a weakly fair run the bound `turnsLeft` falls until the command completes. -/
theorem fairDigestAgentLetsCommandsEnd : Obligations.FairDigestAgentLetsCommandsEnd := by
  refine ⟨fun s => fair_weaklyFair, fun s hs hf hn hb => ?_⟩
  obtain ⟨n, t, ht, hp, hd⟩ := Running.completes ⟨hs, hn, hb⟩ hf
  exact ⟨n, t, ht, (busy_eq_false_iff t).2 hp, hd⟩

/-! ### A silent digest agent (20_memory.md R98) -/

/-- In phase WAIT, when the digest agent does not move, a step reaches the host's bits, the host and
the schedule alone. -/
theorem step_of_silent {s : State} (hp : s.phase = .wait) (ho : s.order = .silentDigest)
    (hn : noReset s) (hd : .digest ∉ s.sched) :
    ∃ b h, step s = .next { s.withHostBits b with host := h, sched := s.sched.tail } := by
  have hb : s.busy = true := (busy_eq_true_iff s).2 (.inr hp)
  have hnext : nextTurn s ≠ .digest := by
    unfold nextTurn
    cases h : s.sched with
    | nil => simp [defaultTurn_wait_silent hp ho]
    | cons turn rest => exact fun e => hd (by rw [h, ← e]; exact List.mem_cons_self)
  rw [step_eq]
  cases ht : nextTurn s with
  | host =>
    obtain ⟨h, e⟩ := hostStep_of_busy (s := { s with sched := s.sched.tail }) hb
    exact ⟨_, h, congrArg Host.Outcome.next e⟩
  | core => exact ⟨s.hostBits, s.host, coreStep_of_not_run (by rw [hp]; nofun)⟩
  | digest => exact absurd ht hnext
  | reset => exact absurd ht (nextTurn_not_reset hn).1
  | resetHost => exact absurd ht (nextTurn_not_reset hn).2

/-- Settles O60, by induction on the number of steps: none reaches the command's state. -/
theorem silentDigestAgentHangsTheCore : Obligations.SilentDigestAgentHangsTheCore := by
  intro s hp ho hn hd n
  induction n generalizing s with
  | zero =>
    refine ⟨s, rfl, hp, ?_, ?_, rfl, rfl, rfl, rfl, rfl, rfl, rfl, rfl, rfl, rfl, rfl, rfl⟩ <;>
      rw [busRead_status, statusWord_getLsbD]
    · exact (busy_eq_true_iff s).2 (.inr hp)
    · exact (dwait_eq_true_iff s).2 hp
  | succ n ih =>
    obtain ⟨b, h, e⟩ := step_of_silent hp ho hn hd
    rw [run_of_step e]
    exact ih _ hp ho (fun turn ht => hn turn (List.mem_of_mem_tail ht))
      (fun ht => hd (List.mem_of_mem_tail ht))

end Sys2Proof.Machine
end

section
/-! Proofs of the statements about the encoding (30_encoding.md R111 to R121): the fields of a word,
what each word format decodes to, and the two round trips. -/

namespace Sys2Proof.Machine

/-! ### The fields of a word (30_encoding.md R111) -/

/-- A field inside a zero range of a word is zero. -/
theorem extractLsb'_eq_zero_of_within {w : Word} {start len start' len' : Nat}
    (h : w.extractLsb' start len = 0) (hs : start ≤ start' := by decide)
    (he : start' + len' ≤ start + len := by decide) : w.extractLsb' start' len' = 0 := by
  refine BitVec.eq_of_getLsbD_eq fun i hi => ?_
  have e : (w.extractLsb' start len).getLsbD (start' + i - start) = false := by rw [h]; simp
  simpa [show start' + i - start < len by omega,
    show start + (start' + i - start) = start' + i by omega, hi] using e

theorem packFields_toNat (m : BitVec 3) (n : BitVec 8) (b a : BitVec 4) (op : BitVec 8) :
    (packFields m n b a op).toNat =
      2 ^ 24 * m.toNat + 2 ^ 16 * n.toNat + 2 ^ 12 * b.toNat + 2 ^ 8 * a.toNat + op.toNat := by
  unfold packFields
  simp only [BitVec.toNat_append, ← Nat.shiftLeft_add_eq_or_of_lt (BitVec.isLt _)]
  simp only [Nat.shiftLeft_eq, BitVec.toNat_ofNat]
  omega

/-- A word with RES = 0 is made of its fields (R111). -/
theorem packFields_fields {w : Word} (h : resField w = 0) :
    packFields (mField w) (nField w) (bField w) (aField w) (opField w) = w := by
  have hres := congrArg BitVec.toNat h
  refine BitVec.eq_of_toNat_eq ?_
  simp only [resField, mField, nField, bField, aField, opField, packFields_toNat,
    BitVec.extractLsb'_toNat, Nat.shiftRight_eq_div_pow, BitVec.ofNat_eq_ofNat,
    BitVec.toNat_ofNat] at hres ⊢
  omega

section PackFields

variable (m : BitVec 3) (n : BitVec 8) (b a : BitVec 4) (op : BitVec 8)

/-- A field of a packed word, as a number. -/
theorem packFields_extractLsb'_toNat (start len : Nat) :
    ((packFields m n b a op).extractLsb' start len).toNat =
      (2 ^ 24 * m.toNat + 2 ^ 16 * n.toNat + 2 ^ 12 * b.toNat + 2 ^ 8 * a.toNat + op.toNat)
        / 2 ^ start % 2 ^ len := by
  rw [BitVec.extractLsb'_toNat, packFields_toNat, Nat.shiftRight_eq_div_pow]

@[simp] theorem resField_packFields : resField (packFields m n b a op) = 0 := by
  refine BitVec.eq_of_toNat_eq ((packFields_extractLsb'_toNat ..).trans ?_)
  simp only [BitVec.ofNat_eq_ofNat, BitVec.toNat_ofNat]
  omega

@[simp] theorem mField_packFields : mField (packFields m n b a op) = m :=
  BitVec.eq_of_toNat_eq ((packFields_extractLsb'_toNat ..).trans (by omega))

@[simp] theorem nField_packFields : nField (packFields m n b a op) = n :=
  BitVec.eq_of_toNat_eq ((packFields_extractLsb'_toNat ..).trans (by omega))

@[simp] theorem opField_packFields : opField (packFields m n b a op) = op :=
  BitVec.eq_of_toNat_eq ((packFields_extractLsb'_toNat ..).trans (by omega))

/-- Bits 15:8 of a packed word are both selectors. -/
@[simp] theorem selectors_packFields : (packFields m n b a op).extractLsb' 8 8 = b ++ a := by
  refine BitVec.eq_of_toNat_eq ((packFields_extractLsb'_toNat ..).trans ?_)
  rw [BitVec.toNat_append, ← Nat.shiftLeft_add_eq_or_of_lt a.isLt, Nat.shiftLeft_eq]
  omega

end PackFields

/-! ### The four word formats (30_encoding.md R113 to R119) -/

/-- The buffer a defined selector code names (R113). -/
def Sel.ofCode (c : BitVec 4) : Sel := if c = 0 then .pass else .salt

theorem selOfCode_of_defined : ∀ c : BitVec 4, ¬ 1 < c → selOfCode c = some (Sel.ofCode c) := by
  decide

theorem selOfCode_of_reserved : ∀ c : BitVec 4, 1 < c → selOfCode c = none := by decide

theorem Sel.code_ofCode : ∀ c : BitVec 4, ¬ 1 < c → (Sel.ofCode c).code = c := by decide

/-- The counts ENCRYPT admits (R114, R115). -/
theorem encrypt_wellFormed_iff {n m : Nat} :
    (Instr.encrypt n m).WellFormed ↔ 1 ≤ n ∧ n ≤ 255 ∧ 1 ≤ m ∧ m ≤ 4 := by
  simp only [Instr.WellFormed, Instr.wf, Bool.and_eq_true, decide_eq_true_eq, and_assoc]

section Formats

variable {w : Word}

/-- The format of EXPAND: which words are bad, and what a word means (R119). -/
theorem decodeExpand_eq : decodeExpand w =
    if w.extractLsb' 16 11 ≠ 0 ∨ 1 < aField w ∨ 1 < bField w then .error .badField
    else .ok (.expand (Sel.ofCode (aField w)) (Sel.ofCode (bField w))) := by
  unfold decodeExpand
  by_cases ha : 1 < aField w
  · rw [selOfCode_of_reserved _ ha, if_pos (.inr (.inl ha))]
  · by_cases hb : 1 < bField w
    · rw [selOfCode_of_defined _ ha, selOfCode_of_reserved _ hb, if_pos (.inr (.inr hb))]
    · rw [selOfCode_of_defined _ ha, selOfCode_of_defined _ hb]
      simp only [ha, hb, or_false, ite_not]

theorem decodeExpand0_eq : decodeExpand0 w =
    if w.extractLsb' 12 15 ≠ 0 ∨ 1 < aField w then .error .badField
    else .ok (.expand0 (Sel.ofCode (aField w))) := by
  unfold decodeExpand0
  by_cases ha : 1 < aField w
  · rw [selOfCode_of_reserved _ ha, if_pos (.inr ha)]
  · rw [selOfCode_of_defined _ ha]
    simp only [ha, or_false, ite_not]

theorem decodeEncrypt_eq : decodeEncrypt w =
    if w.extractLsb' 8 8 ≠ 0 ∨ nField w = 0 ∨ mField w = 0 ∨ 4 < mField w then .error .badField
    else .ok (.encrypt (nField w).toNat (mField w).toNat) := by
  unfold decodeEncrypt
  rw [← ite_not]
  simp only [not_and_or, not_not, BitVec.not_le]

theorem decodePlain_eq {i : Instr} (hp : plainOfOp (opField w) = some i) : decodePlain w =
    if w.extractLsb' 8 19 ≠ 0 then .error .badField else .ok i := by
  rw [decodePlain, hp, ite_not]

/-- A command without operands has only the OP field in its word (R118). -/
theorem encode_of_plainOfOp : ∀ op : BitVec 8, ∀ i ∈ plainOfOp op,
    i.WellFormed ∧ encode i = packFields 0 0 0 0 op := by decide

theorem op_of_le : ∀ op : BitVec 8, ¬ 0x0C < op → op = 0x00 ∨ op = 0x01 ∨ op = 0x02 ∨ op = 0x03 ∨
    op = 0x04 ∨ op = 0x05 ∨ op = 0x06 ∨ op = 0x07 ∨ op = 0x08 ∨ op = 0x09 ∨ op = 0x0A ∨
    op = 0x0B ∨ op = 0x0C := by decide

/-- A defined OP is that of EXPAND, EXPAND0 or ENCRYPT, or names a command without operands
(R118). -/
theorem op_cases (hle : ¬ 0x0C < opField w) :
    opField w = 0x02 ∨ opField w = 0x03 ∨ opField w = 0x05 ∨
      plainOfOp (opField w) = some (commandOfWord w) := by
  unfold commandOfWord
  rcases op_of_le _ hle with h | h | h | h | h | h | h | h | h | h | h | h | h <;>
    simp [h, show w.extractLsb' 0 8 = _ from h, plainOfOp]

theorem commandOfWord_expand (hop : opField w = 0x02) :
    commandOfWord w = .expand (Sel.ofCode (aField w)) (Sel.ofCode (bField w)) := by
  unfold commandOfWord; rw [show w.extractLsb' 0 8 = 0x02 from hop]; rfl

theorem commandOfWord_expand0 (hop : opField w = 0x03) :
    commandOfWord w = .expand0 (Sel.ofCode (aField w)) := by
  unfold commandOfWord; rw [show w.extractLsb' 0 8 = 0x03 from hop]; rfl

theorem commandOfWord_encrypt (hop : opField w = 0x05) :
    commandOfWord w = .encrypt (nField w).toNat (mField w).toNat := by
  unfold commandOfWord; rw [show w.extractLsb' 0 8 = 0x05 from hop]; rfl

theorem badWord_expand (hop : opField w = 0x02) (hres : resField w = 0) :
    badWord w ↔ w.extractLsb' 16 11 ≠ 0 ∨ 1 < aField w ∨ 1 < bField w := by
  simp [badWord, show w.extractLsb' 0 8 = 0x02 from hop, show w.extractLsb' 27 5 = 0 from hres,
    aField, bField]

theorem badWord_expand0 (hop : opField w = 0x03) (hres : resField w = 0) :
    badWord w ↔ w.extractLsb' 12 15 ≠ 0 ∨ 1 < aField w := by
  simp [badWord, show w.extractLsb' 0 8 = 0x03 from hop, show w.extractLsb' 27 5 = 0 from hres,
    aField]

theorem badWord_encrypt (hop : opField w = 0x05) (hres : resField w = 0) :
    badWord w ↔ w.extractLsb' 8 8 ≠ 0 ∨ nField w = 0 ∨ mField w = 0 ∨ 4 < mField w := by
  simp [badWord, show w.extractLsb' 0 8 = 0x05 from hop, show w.extractLsb' 27 5 = 0 from hres,
    nField, mField]

theorem badWord_plain {i : Instr} (hp : plainOfOp (opField w) = some i) (hres : resField w = 0) :
    badWord w ↔ w.extractLsb' 8 19 ≠ 0 := by
  obtain ⟨-, h2, h3, h5⟩ := op_of_plainOfOp (opField w) (by rw [hp]; nofun)
  simp only [opField, BitVec.ofNat_eq_ofNat] at h2 h3 h5
  simp [badWord, h2, h3, h5, show w.extractLsb' 27 5 = 0 from hres]

/-- A word with a defined OP is bad or gives the command it names (R119). -/
theorem decode_of_defined [Decidable (badWord w)] (hle : ¬ 0x0C < opField w) :
    decode w = if badWord w then .error .badField else .ok (commandOfWord w) := by
  rw [decode, if_neg hle]
  by_cases hres : resField w = 0
  · rw [if_neg (not_not.2 hres)]
    rcases op_cases hle with hop | hop | hop | hp
    · rw [if_pos hop, decodeExpand_eq, commandOfWord_expand hop]
      exact if_congr (badWord_expand hop hres).symm rfl rfl
    · rw [if_neg (by rw [hop]; decide), if_pos hop, decodeExpand0_eq, commandOfWord_expand0 hop]
      exact if_congr (badWord_expand0 hop hres).symm rfl rfl
    · rw [if_neg (by rw [hop]; decide), if_neg (by rw [hop]; decide), if_pos hop,
        decodeEncrypt_eq, commandOfWord_encrypt hop]
      exact if_congr (badWord_encrypt hop hres).symm rfl rfl
    · obtain ⟨-, h2, h3, h5⟩ := op_of_plainOfOp (opField w) (by rw [hp]; nofun)
      rw [if_neg h2, if_neg h3, if_neg h5, decodePlain_eq hp]
      exact if_congr (badWord_plain hp hres).symm rfl rfl
  · rw [if_pos hres, if_pos (.inl hres)]

/-- The command a word names, if the word is not bad, has that one word (R119, D24). -/
theorem encode_commandOfWord (hle : ¬ 0x0C < opField w) (hbad : ¬ badWord w) :
    (commandOfWord w).WellFormed ∧ encode (commandOfWord w) = w := by
  have hres : resField w = 0 := by_contra fun h => hbad (.inl h)
  have fields := packFields_fields hres
  rcases op_cases hle with hop | hop | hop | hp
  · rw [badWord_expand hop hres, not_or, not_or, not_not] at hbad
    obtain ⟨hmn, ha, hb⟩ := hbad
    rw [commandOfWord_expand hop, encode, Sel.code_ofCode _ ha, Sel.code_ofCode _ hb]
    rw [mField, nField, extractLsb'_eq_zero_of_within hmn, extractLsb'_eq_zero_of_within hmn,
      hop] at fields
    exact ⟨rfl, fields⟩
  · rw [badWord_expand0 hop hres, not_or, not_not] at hbad
    obtain ⟨hmnb, ha⟩ := hbad
    rw [commandOfWord_expand0 hop, encode, Sel.code_ofCode _ ha]
    rw [mField, nField, bField, extractLsb'_eq_zero_of_within hmnb,
      extractLsb'_eq_zero_of_within hmnb, extractLsb'_eq_zero_of_within hmnb, hop] at fields
    exact ⟨rfl, fields⟩
  · rw [badWord_encrypt hop hres, not_or, not_or, not_or, not_not] at hbad
    obtain ⟨hab, hn, hm, hm4⟩ := hbad
    rw [commandOfWord_encrypt hop, encode, BitVec.ofNat_toNat, BitVec.ofNat_toNat]
    rw [aField, bField, extractLsb'_eq_zero_of_within hab, extractLsb'_eq_zero_of_within hab,
      hop] at fields
    exact ⟨encrypt_wellFormed_iff.2 (by bv_omega), fields⟩
  · rw [badWord_plain hp hres, not_not] at hbad
    obtain ⟨hwf, henc⟩ := encode_of_plainOfOp _ _ hp
    rw [mField, nField, bField, aField, extractLsb'_eq_zero_of_within hbad,
      extractLsb'_eq_zero_of_within hbad, extractLsb'_eq_zero_of_within hbad,
      extractLsb'_eq_zero_of_within hbad] at fields
    exact ⟨hwf, henc.trans fields⟩

end Formats

/-- ENCRYPT decodes for every pass and pair count its fields allow (R114, R115). -/
theorem decode_packFields_encrypt {m : BitVec 3} {n : BitVec 8} (hn : n ≠ 0#8)
    (hm : m ≠ 0#3) (hm4 : m ≤ 4#3) :
    decode (packFields m n 0 0 0x05) = .ok (.encrypt n.toNat m.toNat) := by
  simp [decode, decodeEncrypt, hn, hm, hm4]

/-- Settles O5: the selectors give finitely many words, and ENCRYPT's fields read back as its
counts. -/
theorem decodeOfEncode : Obligations.DecodeOfEncode := by
  intro i hi
  cases i with
  | encrypt n m =>
    obtain ⟨hn, hn', hm, hm'⟩ := encrypt_wellFormed_iff.1 hi
    have e := decode_packFields_encrypt (m := BitVec.ofNat 3 m) (n := BitVec.ofNat 8 n)
      (by bv_omega) (by bv_omega) (by bv_omega)
    rwa [BitVec.toNat_ofNat, BitVec.toNat_ofNat, Nat.mod_eq_of_lt (by omega),
      Nat.mod_eq_of_lt (by omega)] at e
  | expand data key => cases data <;> cases key <;> rfl
  | expand0 key => cases key <;> rfl
  | nop | init | loadmagic | serialize | bhash | accload | accxor | rehash | kdfblk | wipe => rfl

/-- Settles O4: a word with a defined OP is bad or gives the command it names. -/
theorem decodeOfEveryWord : Obligations.DecodeOfEveryWord := by
  classical
  intro w
  refine ⟨fun h => if_pos h, fun hle hbad => ?_, fun hle hbad => ?_⟩
  · rw [decode_of_defined (BitVec.not_lt.2 hle), if_pos hbad]
  · rw [decode_of_defined (BitVec.not_lt.2 hle), if_neg hbad]

/-- Settles O6: the command is the one the word names, whose word it is. -/
theorem encodeOfDecode : Obligations.EncodeOfDecode := by
  intro w i h
  obtain ⟨hillegal, hbad, hok⟩ := decodeOfEveryWord w
  have hle : w.extractLsb' 0 8 ≤ 0x0C := by
    by_contra hlt
    exact nomatch (hillegal (BitVec.not_le.1 hlt)).symm.trans h
  have hgood : ¬ badWord w := fun hb => nomatch (hbad hle hb).symm.trans h
  obtain rfl := Except.ok.inj ((hok hle hgood).symm.trans h)
  exact encode_commandOfWord (BitVec.not_lt.2 hle) hgood

/-- Settles O3: each word is the encoding of its command, and O5 decodes it. -/
theorem workedEncodings : Obligations.WorkedEncodings := by
  have both {i : Instr} {w : Word} (hi : i.WellFormed) (he : encode i = w) :
      encode i = w ∧ decode w = .ok i := ⟨he, he ▸ decodeOfEncode i hi⟩
  exact ⟨both rfl rfl, both rfl rfl, both rfl rfl, both rfl rfl, both rfl rfl, both rfl rfl,
    both rfl rfl⟩

end Sys2Proof.Machine
end

section
/-! Proofs of the statements about the pseudo-instructions (30_encoding.md R123): XHASH beside BHASH,
and LDBUF. -/

namespace Sys2Proof.Machine

/-! ### Sequences of commands of one core step -/

/-- The buffers the commands of ExpensiveHash read and write (42_cmd_hash_kdf.md R201). -/
structure HashBuffers where
  cipher : CipherState
  cdata : Vector Word 8
  pass : Vector Byte 64
  salt : Vector Byte 64
  tmpout : Vector Byte 32
  out : Vector Byte 32

/-- The buffer of a selector (41_cmd_cipher.md R172). -/
def HashBuffers.buf (b : HashBuffers) : Sel → Vector Byte 64
  | .pass => b.pass
  | .salt => b.salt

def State.hashBuffers (s : State) : HashBuffers :=
  ⟨s.cipher, s.cdata, s.pass, s.salt, s.tmpout, s.out⟩

/-- From every idle state the commands complete and leave the buffers as `f` gives them. -/
def Transforms (is : List Instr) (f : HashBuffers → HashBuffers) : Prop :=
  ∀ s : State, s.busy = false →
    ∃ t, doAll 1 is s = .next t ∧ t.busy = false ∧ t.hashBuffers = f s.hashBuffers

/-- `DO` of a command that is done in one core step: the CMD write and that step. -/
theorem doCommand_of_exec {i : Instr} {s u : State} (hb : s.busy = false) (hi : i.WellFormed)
    (hk : i ≠ .kdfblk) (he : exec i (accept i (encode i) s) = .next (complete u)) :
    doCommand 1 i s = .next (complete u) := by
  have hd := decodeOfEncode i hi
  have hw : busWrite 0x0008 (encode i) s = accept i (encode i) s :=
    submit_of_idle hb hd (absurd · hk)
  rw [doCommand, hw, runToIdle_of_run (accept_phase ..) (by rw [accept_cur]; exact hd) he,
    runToIdle_of_idle rfl]

theorem doAll_cons {fuel : Nat} {i : Instr} {s t : State} (h : doCommand fuel i s = .next t)
    (is : List Instr) : doAll fuel (i :: is) s = doAll fuel is t := by
  rw [doAll, h]

theorem doAll_singleton (fuel : Nat) (i : Instr) (s : State) :
    doAll fuel [i] s = doCommand fuel i s := by
  rw [doAll]
  cases doCommand fuel i s <;> rfl

theorem doAll_append {fuel : Nat} {is : List Instr} {s t : State} (h : doAll fuel is s = .next t)
    (js : List Instr) : doAll fuel (is ++ js) s = doAll fuel js t := by
  induction is generalizing s with
  | nil => cases h; rfl
  | cons i is ih =>
    cases hc : doCommand fuel i s with
    | next u => rw [doAll_cons hc] at h; rw [List.cons_append, doAll_cons hc, ih h]
    | fault r | refused r => rw [doAll, hc] at h; nomatch h

section Transforms

variable {is js : List Instr} {f g : HashBuffers → HashBuffers}

theorem Transforms.nil : Transforms [] id := fun s hb => ⟨s, rfl, hb, rfl⟩

theorem Transforms.append (hf : Transforms is f) (hg : Transforms js g) :
    Transforms (is ++ js) (g ∘ f) := by
  intro s hb
  obtain ⟨t, ht, hbt, hft⟩ := hf s hb
  obtain ⟨u, hu, hbu, hgu⟩ := hg t hbt
  exact ⟨u, (doAll_append ht js).trans hu, hbu, hgu.trans (congrArg g hft)⟩

theorem Transforms.replicate (hf : Transforms is f) (n : Nat) :
    Transforms (List.replicate n is).flatten f^[n] := by
  induction n with
  | zero => exact .nil
  | succ n ih => exact hf.append ih

theorem Transforms.congr (hf : Transforms is f) (h : ∀ b, f b = g b) : Transforms is g :=
  funext h ▸ hf

/-- A command whose core step completes with the buffers `f` gives. -/
theorem Transforms.single {i : Instr} (hi : i.WellFormed) (hk : i ≠ .kdfblk)
    (he : ∀ s, ∃ u, exec i s = .next (complete u) ∧ u.hashBuffers = f s.hashBuffers) :
    Transforms [i] f := by
  intro s hb
  obtain ⟨u, hu, hfu⟩ := he (accept i (encode i) s)
  refine ⟨complete u, ?_, rfl, hfu.trans ?_⟩
  · rw [doAll_singleton]
    exact doCommand_of_exec hb hi hk hu
  · simp only [State.hashBuffers, accept_cipher, accept_cdata, accept_pass, accept_salt,
      accept_tmpout, accept_out]

end Transforms

/-! ### BHASH and XHASH (30_encoding.md R123, 42_cmd_hash_kdf.md R201, R202) -/

/-- EXPAND0 on the buffers. -/
def HashBuffers.expand0 (key : Sel) (b : HashBuffers) : HashBuffers :=
  { b with cipher := Machine.expand0 b.cipher (b.buf key) }

/-- The two commands XHASH repeats are the schedules ExpensiveHash repeats (R201, step 3). -/
theorem expand0_iterate (n : Nat) (b : HashBuffers) :
    (HashBuffers.expand0 .pass ∘ HashBuffers.expand0 .salt)^[n] b =
      { b with cipher := (fun c => expand0 (expand0 c b.salt) b.pass)^[n] b.cipher } := by
  have commute : Function.Semiconj (fun c => { b with cipher := c })
      (fun c => expand0 (expand0 c b.salt) b.pass)
      (HashBuffers.expand0 .pass ∘ HashBuffers.expand0 .salt) := fun c => by
    simp only [Function.comp_apply, HashBuffers.expand0, HashBuffers.buf]
  exact ((commute.iterate_right n).eq b.cipher).symm

theorem transforms_init : Transforms [.init] (fun b => { b with cipher := initTables }) :=
  .single rfl nofun fun _ => ⟨_, rfl, rfl⟩

theorem transforms_expand_salt_pass :
    Transforms [.expand .salt .pass] (fun b => { b with cipher := expand b.cipher b.salt b.pass }) :=
  .single rfl nofun fun _ => ⟨_, rfl, by simp only [State.hashBuffers, State.buf]⟩

theorem transforms_expand0 (key : Sel) : Transforms [.expand0 key] (HashBuffers.expand0 key) := by
  cases key <;> exact .single rfl nofun fun _ =>
    ⟨_, rfl, by simp only [State.hashBuffers, State.buf, HashBuffers.expand0, HashBuffers.buf]⟩

theorem transforms_loadmagic :
    Transforms [.loadmagic] (fun b => { b with cdata := loadMagic b.cdata }) :=
  .single rfl nofun fun _ => ⟨_, rfl, rfl⟩

theorem transforms_encrypt (n m : Nat) (h : (Instr.encrypt n m).WellFormed) :
    Transforms [.encrypt n m] (fun b => { b with cdata := encryptPasses b.cipher n m b.cdata }) :=
  .single h nofun fun _ => ⟨_, rfl, rfl⟩

theorem transforms_serialize :
    Transforms [.serialize] (fun b => { b with tmpout := serialize b.cdata }) :=
  .single rfl nofun fun _ => ⟨_, rfl, rfl⟩

/-- Steps 1 to 3 of ExpensiveHash (R201). -/
theorem transforms_hashSchedule :
    Transforms ([.init, .expand .salt .pass] ++
        (List.replicate 64 [Instr.expand0 .salt, Instr.expand0 .pass]).flatten)
      (fun b => { b with cipher := hashSchedule b.pass b.salt }) := by
  have first := transforms_init.append transforms_expand_salt_pass
  have repeated := ((transforms_expand0 .salt).append (transforms_expand0 .pass)).replicate 64
  refine (first.append repeated).congr fun b => ?_
  rw [Function.comp_apply, expand0_iterate, Function.comp_apply, hashSchedule]

/-- XHASH: the tables of ExpensiveHash, CDATA enciphered under them, and its bytes in TMPOUT
(R201). -/
theorem transforms_xhash : Transforms xhashCommands fun b =>
    let c := hashSchedule b.pass b.salt
    let d := encryptPasses c 64 4 (loadMagic b.cdata)
    { b with cipher := c, cdata := d, tmpout := serialize d } := by
  have last := transforms_loadmagic.append
    ((transforms_encrypt 64 4 rfl).append transforms_serialize)
  refine (transforms_hashSchedule.append last).congr fun b => ?_
  simp only [Function.comp_apply]

/-- BHASH: the same TMPOUT, and the rest wiped (R201, R202). -/
theorem transforms_bhash : Transforms [.bhash] fun b =>
    { b with
      tmpout := serialize (encryptPasses (hashSchedule b.pass b.salt) 64 4 (loadMagic b.cdata))
      cipher := .zero, cdata := zeroWords } :=
  .single rfl nofun fun _ => ⟨_, rfl, rfl⟩

/-- Settles O31: XHASH and BHASH transform the buffers the same way, up to the wipe. -/
theorem bhashEqualsXhash : Obligations.BhashEqualsXhash := by
  intro s hb
  obtain ⟨t, ht, -, et⟩ := transforms_xhash s hb
  obtain ⟨u, hu, -, eu⟩ := transforms_bhash s hb
  rw [doAll_singleton] at hu
  refine ⟨t, u, ht, hu, ?_⟩
  simp only [State.hashBuffers, HashBuffers.mk.injEq] at et eu
  obtain ⟨-, -, htpass, htsalt, httmp, htout⟩ := et
  obtain ⟨-, -, hupass, husalt, hutmp, huout⟩ := eu
  exact ⟨httmp.trans hutmp.symm, htpass.trans hupass.symm, htsalt.trans husalt.symm,
    htout.trans huout.symm⟩

/-! ### LDBUF (30_encoding.md R123, 20_memory.md R73) -/

/-- Write `k` of LDBUF (R123). -/
def ldbufWrite (sel : Sel) (bytes : List Byte) (k : Nat) : HostAct :=
  .wr (BitVec.ofNat 13 (bufferBase sel + 4 * k)) (bufferWord bytes k)

theorem ldbuf_eq (sel : Sel) (bytes : List Byte) :
    ldbuf sel bytes = (List.range 16).map (ldbufWrite sel bytes) := rfl

/-- The state with the buffer of a selector replaced. -/
def State.withBuf (s : State) (sel : Sel) (buf : Vector Byte 64) : State :=
  match sel with
  | .pass => { s with pass := buf }
  | .salt => { s with salt := buf }

/-- The register of word `k` of a selectable buffer (20_memory.md R72). -/
def bufferReg (sel : Sel) (k : Fin 16) : Reg :=
  match sel with
  | .pass => .pass k
  | .salt => .salt k

theorem regOf_bufferBase (sel : Sel) (k : Fin 16) :
    regOf (BitVec.ofNat 13 (bufferBase sel + 4 * k.val)) = bufferReg sel k := by
  cases sel with
  | pass => exact regOf_byteOffset_add (.pass k) nofun (b := 0) (by decide)
  | salt => exact regOf_byteOffset_add (.salt k) nofun (b := 0) (by decide)

theorem writtenReg_bufferReg (s : State) (sel : Sel) (k : Fin 16) (w : Word) :
    writtenReg w s (bufferReg sel k) = s.withBuf sel (setLane (s.buf sel) k.val w (by omega)) := by
  cases sel <;> rfl

theorem bufferReg_isData (sel : Sel) (k : Fin 16) : (bufferReg sel k).isData = true := by
  cases sel <;> rfl

/-- An idle write of word `k` of a selectable buffer (20_memory.md R73, R76). -/
theorem busWrite_buffer {s : State} (hb : s.busy = false) (sel : Sel) (k : Fin 16) (w : Word) :
    busWrite (BitVec.ofNat 13 (bufferBase sel + 4 * k.val)) w s =
      s.withBuf sel (setLane (s.buf sel) k.val w (by omega)) := by
  rw [busWrite_eq (regOf_bufferBase sel k), writeReg_of_idle w hb (bufferReg_isData sel k),
    writtenReg_bufferReg]

/-- A buffer after the first `k` words of `bytes` are written. -/
def loadedBytes (buf bytes : Vector Byte 64) (k : Nat) : Vector Byte 64 :=
  Vector.ofFn fun i => if i.val < 4 * k then bytes[i] else buf[i]

theorem loadedBytes_zero (buf bytes : Vector Byte 64) : loadedBytes buf bytes 0 = buf := by
  simp [loadedBytes]

theorem loadedBytes_all (buf bytes : Vector Byte 64) : loadedBytes buf bytes 16 = bytes := by
  simp [loadedBytes]

/-- The words LDBUF writes are the bus words of the buffer it loads (R73, R123). -/
theorem bufferWord_eq_getLane (bytes : Vector Byte 64) {k : Nat} (hk : 4 * k + 3 < 64) :
    bufferWord bytes.toList k = getLane bytes k hk := by
  have get : ∀ i (hi : i < 64), bytes.toList.getD i 0 = bytes[i] := fun i hi => by simp [hi]
  rw [bufferWord, getLane, get, get, get, get]

theorem setLane_loadedBytes (buf bytes : Vector Byte 64) {k : Nat} (hk : 4 * k + 3 < 64) :
    setLane (loadedBytes buf bytes k) k (bufferWord bytes.toList k) hk =
      loadedBytes buf bytes (k + 1) := by
  refine Vector.ext fun j hj => ?_
  rw [getElem_setLane, bufferWord_eq_getLane bytes hk]
  simp only [loadedBytes, Vector.getElem_ofFn]
  split
  · rename_i h
    subst h
    rw [getLane_byte _ _ _ _ (Nat.mod_lt _ (by decide)), if_pos (by omega)]
    simp only [Nat.div_add_mod, Fin.getElem_fin]
  · simp only [show j < 4 * (k + 1) ↔ j < 4 * k by omega]

/-- The host moves when no turn is scheduled and the core is idle (log 2). -/
theorem step_of_idle {s : State} (hb : s.busy = false) (hs : s.sched = []) :
    step s = turnStep .host s := by
  unfold step
  split
  · rename_i h; exact nomatch hs.symm.trans h
  · rw [defaultTurn_idle ((busy_eq_false_iff s).1 hb)]

theorem nextAct_of_prog {h : HostAgent} {a : HostAct} {rest : List HostAct} (ht : h.todo = [])
    (hp : h.prog = a :: rest) : nextAct h = some (a, { h with prog := rest }) := by
  simp only [nextAct, ht, hp]

/-- The state after the first `n` writes of LDBUF, with the actions `rest` to come. -/
def State.afterLoads (s : State) (sel : Sel) (bytes : Vector Byte 64) (n : Nat)
    (rest : List HostAct) : State :=
  { s.withBuf sel (loadedBytes (s.buf sel) bytes n) with host := { s.host with prog := rest } }

section AfterLoads

variable (s : State) (sel : Sel) (bytes : Vector Byte 64) (n : Nat) (rest : List HostAct)

theorem afterLoads_busy : (s.afterLoads sel bytes n rest).busy = s.busy := by
  cases sel <;> simp only [State.afterLoads, State.withBuf, State.busy]

theorem afterLoads_sched : (s.afterLoads sel bytes n rest).sched = s.sched := by
  cases sel <;> simp only [State.afterLoads, State.withBuf]

theorem afterLoads_zero (hp : s.host.prog = rest) : s.afterLoads sel bytes 0 rest = s := by
  rw [State.afterLoads, loadedBytes_zero, ← hp]
  cases sel <;> rfl

/-- The write of word `n` after those before it. -/
theorem withBuf_afterLoads (hn : 4 * n + 3 < 64) :
    (s.afterLoads sel bytes n rest).withBuf sel
        (setLane ((s.afterLoads sel bytes n rest).buf sel) n (bufferWord bytes.toList n) hn) =
      s.afterLoads sel bytes (n + 1) rest := by
  rw [State.afterLoads, State.afterLoads, ← setLane_loadedBytes _ _ hn]
  cases sel <;> simp only [State.withBuf, State.buf]

end AfterLoads

/-- One more write of LDBUF, as the host's step. -/
theorem step_afterLoads {s : State} (hb : s.busy = false) (hs : s.sched = [])
    (ht : s.host.todo = []) (sel : Sel) (bytes : Vector Byte 64) {n : Nat} (hn : n < 16)
    (rest : List HostAct) :
    step (s.afterLoads sel bytes n (ldbufWrite sel bytes.toList n :: rest)) =
      .next (s.afterLoads sel bytes (n + 1) rest) := by
  have next : nextAct (s.afterLoads sel bytes n (ldbufWrite sel bytes.toList n :: rest)).host =
      some (ldbufWrite sel bytes.toList n, { s.host with prog := rest }) :=
    nextAct_of_prog (h := { s.host with prog := _ }) ht rfl
  rw [step_of_idle ((afterLoads_busy ..).trans hb) ((afterLoads_sched ..).trans hs),
    turnStep_host_of_nextAct next, ← withBuf_afterLoads (hn := by omega)]
  exact congrArg Host.Outcome.next (busWrite_buffer ((afterLoads_busy ..).trans hb) sel ⟨n, hn⟩ _)

/-- The first `n` writes of LDBUF, by induction on their number. -/
theorem run_afterLoads {s : State} (hb : s.busy = false) (hs : s.sched = [])
    (ht : s.host.todo = []) (sel : Sel) (bytes : Vector Byte 64) {n : Nat} (hn : n ≤ 16)
    (rest : List HostAct)
    (hp : s.host.prog = (List.range n).map (ldbufWrite sel bytes.toList) ++ rest) :
    Sys2Proof.core.run n s = .next (s.afterLoads sel bytes n rest) := by
  induction n generalizing rest with
  | zero => rw [afterLoads_zero s sel bytes rest hp]; rfl
  | succ n ih =>
    rw [List.range_succ, List.map_append, List.append_assoc] at hp
    exact (run_add (ih (by omega) _ hp) 1).trans
      (run_of_step (step_afterLoads hb hs ht sel bytes hn rest) 0)

/-- Settles O55: after all 16 writes every byte of the buffer is loaded. -/
theorem ldbufLoadsTheBuffer : Obligations.LdbufLoadsTheBuffer := by
  intro s bytes rest hb hs ht
  have run := fun sel => run_afterLoads hb hs ht sel bytes (Nat.le_refl 16) rest
  simp only [State.afterLoads, loadedBytes_all, ← ldbuf_eq] at run
  exact ⟨run .pass, run .salt⟩

end Sys2Proof.Machine
end

section
/-! Proofs of the statements about Encipher, StreamWord and EncryptBlocks
(40_blockmixer_primitives.md R141 to R144, R149). -/

namespace Sys2Proof.Machine

/-! ### Loops

`Nat.fold` is the loop of every primitive: what its turns keep, the values it goes through, and when
it can be undone. -/

/-- What every turn of a loop keeps holds after the loop. -/
theorem fold_keeps {α : Type} {n : Nat} {f : (i : Nat) → i < n → α → α} {init : α}
    {P : Nat → α → Prop} (first : P 0 init)
    (next : ∀ (i : Nat) (h : i < n) (a : α), P i a → P (i + 1) (f i h a)) :
    P n (Nat.fold n f init) := by
  induction n with
  | zero => exact first
  | succ n ih =>
    rw [Nat.fold_succ]
    exact next n (Nat.lt_succ_self n) _ (ih fun i h => next i (Nat.lt_succ_of_lt h))

/-- The values a loop goes through, from the first to the last. -/
theorem fold_values {α : Type} {n : Nat} (f : (i : Nat) → i < n → α → α) (init : α) :
    ∃ value : Nat → α, value 0 = init ∧ (∀ (i : Nat) (h : i < n), value (i + 1) = f i h (value i)) ∧
      Nat.fold n f init = value n := by
  refine ⟨fun i => if h : i ≤ n then Nat.fold i (fun j hj => f j (by omega)) init else init,
    by simp, fun i h => ?_, by simp⟩
  simp only [dif_pos (Nat.succ_le_of_lt h), dif_pos h.le, Nat.fold_succ]

/-- A loop whose every turn can be undone can be undone. -/
theorem fold_bijective {α : Type} {n : Nat} {f : (i : Nat) → i < n → α → α}
    (turn : ∀ (i : Nat) (h : i < n), Function.Bijective (f i h)) :
    Function.Bijective fun a => Nat.fold n f a := by
  induction n with
  | zero => exact Function.bijective_id
  | succ n ih =>
    simp only [Nat.fold_succ]
    exact (turn n (Nat.lt_succ_self n)).comp (ih fun i h => turn i (Nat.lt_succ_of_lt h))

/-! ### Encipher (40_blockmixer_primitives.md R141 to R143) -/

section Encipher

variable (c : CipherState)

theorem roundF_wordOfBytes (x3 x2 x1 x0 : Byte) : roundF c (wordOfBytes x0 x1 x2 x3) =
    ((c.s[0][x3.toNat] + c.s[1][x2.toNat]) ^^^ c.s[2][x1.toNat]) + c.s[3][x0.toNat] := by
  have byte := wordOfBytes_byte x0 x1 x2 x3
  have b0 : (wordOfBytes x0 x1 x2 x3).extractLsb' 0 8 = x0 := byte 0 (by decide)
  have b1 : (wordOfBytes x0 x1 x2 x3).extractLsb' 8 8 = x1 := byte 1 (by decide)
  have b2 : (wordOfBytes x0 x1 x2 x3).extractLsb' 16 8 = x2 := byte 2 (by decide)
  have b3 : (wordOfBytes x0 x1 x2 x3).extractLsb' 24 8 = x3 := byte 3 (by decide)
  simp only [roundF, b0, b1, b2, b3]

theorem feistelRound_odd (k : Nat) (h : 2 * k + 1 < 18) (lr : Word × Word) :
    feistelRound c (2 * k + 1) h lr = (lr.1, lr.2 ^^^ roundF c lr.1 ^^^ c.p[2 * k + 1]) :=
  if_pos (by omega)

theorem feistelRound_even (k : Nat) (h : 2 * k + 2 < 18) (lr : Word × Word) :
    feistelRound c (2 * k + 2) h lr = (lr.1 ^^^ roundF c lr.2 ^^^ c.p[2 * k + 2], lr.2) :=
  if_neg (by omega)

theorem xor_xor_xor_xor_self (x a b : Word) : x ^^^ a ^^^ b ^^^ a ^^^ b = x := by
  rw [BitVec.xor_assoc x a b, BitVec.xor_comm a b, ← BitVec.xor_assoc x b a]
  simp

/-- A round undoes itself: the half that it leaves gives the same mask again. -/
theorem feistelRound_involutive (i : Nat) (h : i < 18) :
    Function.Involutive (feistelRound c i h) := by
  intro lr
  unfold feistelRound
  split <;> simp [xor_xor_xor_xor_self]

theorem xor_left_involutive (k : Word) :
    Function.Involutive fun lr : Word × Word => (lr.1 ^^^ k, lr.2) :=
  fun lr => by simp

/-- The sixteen rounds, two at a time. -/
theorem encipher_rounds (l r : Word) : ∃ left right : Nat → Word,
    left 0 = l ^^^ c.p[0] ∧ right 0 = r ∧
    (∀ k : Fin 8,
      right (k.val + 1) = right k.val ^^^ roundF c (left k.val) ^^^ c.p[2 * k.val + 1] ∧
      left (k.val + 1) = left k.val ^^^ roundF c (right (k.val + 1)) ^^^ c.p[2 * k.val + 2]) ∧
    encipher c l r = (right 8 ^^^ c.p[17], left 8) := by
  obtain ⟨halves, first, next, last⟩ := fold_values
    (fun k (h : k < 16) lr => feistelRound c (k + 1) (by omega) lr) (l ^^^ c.p[0], r)
  refine ⟨fun k => (halves (2 * k)).1, fun k => (halves (2 * k)).2, by simp [first],
    by simp [first], fun k => ?_, by simp only [encipher, last]⟩
  have odd := next (2 * k) (by omega)
  have even := next (2 * k + 1) (by omega)
  rw [feistelRound_odd] at odd
  rw [feistelRound_even, odd] at even
  simp [Nat.mul_add, even]

theorem feistelRound_zero (i : Nat) (h : i < 18) (lr : Word × Word) :
    feistelRound .zero i h lr = lr := by
  simp [feistelRound, roundF, CipherState.zero]

theorem encipher_zero (l r : Word) : encipher .zero l r = (r, l) := by
  have whitening (i : Nat) (h : i < 18) : CipherState.zero.p[i] = 0 := Vector.getElem_replicate h
  simp [encipher, feistelRound_zero, whitening]

/-- Encipher is a whitening, the sixteen rounds, the swap and a whitening, each a bijection. -/
theorem encipher_bijective :
    Function.Bijective fun lr : Word × Word => encipher c lr.1 lr.2 := by
  have rounds := fold_bijective (n := 16) fun k h =>
    (feistelRound_involutive c (k + 1) (by omega)).bijective
  have composed := (xor_left_involutive c.p[17]).bijective.comp
    (Prod.swap_bijective.comp (rounds.comp (xor_left_involutive c.p[0]).bijective))
  simpa only [encipher, Function.comp_def, Prod.fst_swap, Prod.snd_swap] using composed

end Encipher

/-- Settles O17: an odd round and the even one after it are one turn of the recurrence, and under
the all-zero tables a round changes nothing. -/
theorem encipherIsSixteenRounds : Obligations.EncipherIsSixteenRounds :=
  ⟨roundF_wordOfBytes, encipher_rounds, encipher_zero⟩

/-- Settles O18: every step of Encipher is self-inverse. -/
theorem encipherIsABijection : Obligations.EncipherIsABijection := encipher_bijective

/-! ### StreamWord (40_blockmixer_primitives.md R144) -/

/-- One byte, the cursor read modulo the length. -/
theorem streamByte_eq {n : Nat} (buf : Vector Byte n) (v : Word) {j : Nat} (hn : 0 < n)
    (hj : j ≤ n) : streamByte buf (v, j) =
      ((v <<< 8) ||| (buf[j % n]'(Nat.mod_lt _ hn)).setWidth 32, j % n + 1) := by
  have wrapped : (if n ≤ j then 0 else j) = j % n := by
    split
    · rw [show j = n by omega, Nat.mod_self]
    · rw [Nat.mod_eq_of_lt (by omega)]
  simp [streamByte, wrapped, Nat.mod_lt j hn]

/-- A byte shifted in from the right. -/
theorem getLsbD_shift_in (v : Word) (b : Byte) {i : Nat} (hi : i < 32) :
    ((v <<< 8) ||| b.setWidth 32).getLsbD i = if i < 8 then b.getLsbD i else v.getLsbD (i - 8) := by
  rw [BitVec.getLsbD_or, BitVec.getLsbD_shiftLeft, BitVec.getLsbD_setWidth]
  split
  · simp [*]
  · simp [*, BitVec.getLsbD_of_ge b i (by omega)]

/-- Four bytes shifted in, the first the most significant (R144). -/
theorem shift_in_bytes (b3 b2 b1 b0 : Byte) :
    ((((((((0 : Word) <<< 8) ||| b3.setWidth 32) <<< 8) ||| b2.setWidth 32) <<< 8) |||
      b1.setWidth 32) <<< 8) ||| b0.setWidth 32 = wordOfBytes b0 b1 b2 b3 := by
  refine BitVec.eq_of_getLsbD_eq fun i hi => ?_
  unfold wordOfBytes
  simp only [BitVec.getLsbD_append, getLsbD_shift_in _ _ hi,
    getLsbD_shift_in _ _ (show i - 8 < 32 by omega),
    getLsbD_shift_in _ _ (show i - 8 - 8 < 32 by omega),
    getLsbD_shift_in _ _ (show i - 8 - 8 - 8 < 32 by omega),
    show i - 8 - 8 - 8 < 8 by omega, if_true]

theorem streamWord_eq {n : Nat} (buf : Vector Byte n) (j : Nat) (hn : 0 < n) (hj : j ≤ n) :
    streamWord buf j =
      (wordOfBytes (buf[(j + 3) % n]'(Nat.mod_lt _ hn)) (buf[(j + 2) % n]'(Nat.mod_lt _ hn))
        (buf[(j + 1) % n]'(Nat.mod_lt _ hn)) (buf[j % n]'(Nat.mod_lt _ hn)), (j + 3) % n + 1) := by
  have next (i : Nat) : i % n + 1 ≤ n := Nat.mod_lt i hn
  simp only [streamWord, streamByte_eq buf _ hn hj, streamByte_eq buf _ hn (next _),
    Nat.mod_add_mod, Nat.add_assoc, Nat.reduceAdd, shift_in_bytes]

/-- Settles O19: each of the four bytes wraps the cursor before it reads. -/
theorem streamWordIsBigEndian : Obligations.StreamWordIsBigEndian := fun _ => streamWord_eq

/-- The cursor stands at word `k` of a streamed buffer of 64 bytes: at its first byte, or just past
the last byte of the word before it. -/
def AtWord (k j : Nat) : Prop := j ≤ 64 ∧ j % 64 = 4 * k % 64

theorem atWord_zero : AtWord 0 0 := ⟨Nat.zero_le _, rfl⟩

theorem streamWord_atWord (buf : Vector Byte 64) {k j : Nat} (h : AtWord k j) :
    (streamWord buf j).1 = streamedWord buf k ∧ AtWord (k + 1) (streamWord buf j).2 := by
  obtain ⟨hj, hk⟩ := h
  have byte (b : Nat) : (j + b) % 64 = (4 * k + b) % 64 := by omega
  rw [streamWord_eq buf j (by decide) hj]
  exact ⟨by simp only [streamedWord, byte, hk], by unfold AtWord; omega⟩

/-! ### ENCRYPT (40_blockmixer_primitives.md R149, 41_cmd_cipher.md R175) -/

/-- Block pair `b` of CDATA. -/
def blockPair (d : Vector Word 8) (b : Fin 4) : Word × Word := (d[2 * b.val], d[2 * b.val + 1])

section BlockPairs

variable (c : CipherState) (m : Nat) (d : Vector Word 8) (b : Fin 4)

theorem blockPair_encryptPair (k : Nat) (hk : k < 4) :
    blockPair (encryptPair c k hk d) b =
      if b.val = k then encipher c (blockPair d b).1 (blockPair d b).2 else blockPair d b := by
  unfold blockPair encryptPair
  split
  · subst k; simp
  · simp (disch := omega) only [Vector.getElem_set_ne]

theorem blockPair_encryptBlocks :
    blockPair (encryptBlocks c m d) b =
      if b.val < m then encipher c (blockPair d b).1 (blockPair d b).2 else blockPair d b := by
  have pairs := fold_keeps (n := min m 4) (init := d)
    (f := fun k h d => encryptPair c k (by omega) d)
    (P := fun k e => blockPair e b =
      if b.val < k then encipher c (blockPair d b).1 (blockPair d b).2 else blockPair d b) rfl
    fun k hk e he => by
      rw [blockPair_encryptPair, he]
      split
      · simp [show b.val = k by assumption]
      · simp only [show b.val < k ↔ b.val < k + 1 by omega]
  simpa [encryptBlocks] using pairs

theorem blockPair_encryptPasses (n : Nat) :
    blockPair (encryptPasses c n m d) b =
      if b.val < m then (fun lr : Word × Word => encipher c lr.1 lr.2)^[n] (blockPair d b)
      else blockPair d b := by
  unfold encryptPasses
  induction n with
  | zero => simp
  | succ n ih =>
    rw [Function.iterate_succ_apply', blockPair_encryptBlocks, ih, Function.iterate_succ_apply']
    split <;> rfl

end BlockPairs

/-- Settles O27: a pass enciphers each of the first `m` pairs once, and passes are iterated. -/
theorem encryptRunsPassesOnPairs : Obligations.EncryptRunsPassesOnPairs := fun n m s _ =>
  ⟨encryptPasses s.cipher n m s.cdata, rfl, fun b => blockPair_encryptPasses s.cipher m s.cdata b n⟩

end Sys2Proof.Machine
end

section
/-! Proofs of the statements about the key schedules Expand and Expand0 (40_blockmixer_primitives.md
R146 to R148). -/

namespace Sys2Proof.Machine

/-! ### The key phase (40_blockmixer_primitives.md R146) -/

/-- P after the first `k` turns of the key phase, and the cursor. -/
def KeyPhaseAfter (p : Vector Word 18) (key : Vector Byte 64) (k : Nat)
    (pj : Vector Word 18 × Nat) : Prop :=
  AtWord k pj.2 ∧ ∀ (i : Nat) (h : i < 18),
    pj.1[i] = if i < k then p[i] ^^^ streamedWord key i else p[i]

theorem xorKey_getElem (p : Vector Word 18) (key : Vector Byte 64) (i : Nat) (h : i < 18) :
    (xorKey p key)[i] = p[i] ^^^ streamedWord key i := by
  have ⟨_, entries⟩ := fold_keeps (n := 18) (init := (p, 0)) (P := KeyPhaseAfter p key)
    (f := fun k hk (pj : Vector Word 18 × Nat) =>
      (pj.1.set k (pj.1[k] ^^^ (streamWord key pj.2).1), (streamWord key pj.2).2))
    ⟨atWord_zero, fun i h => rfl⟩ fun k hk pj ⟨cursor, entries⟩ => by
      obtain ⟨word, next⟩ := streamWord_atWord key cursor
      refine ⟨next, fun i h => ?_⟩
      rw [Vector.getElem_set]
      split
      · subst i; simp [word, entries]
      · rw [entries i h]; simp only [show i < k ↔ i < k + 1 by omega]
  rw [xorKey, entries i h, if_pos h]

/-! ### The key schedule as 521 pairs (40_blockmixer_primitives.md R146, R147) -/

/-- The block stored as pair `b` of the 521: P[2b] and P[2b+1], then the pairs of S[0] to S[3]. -/
def storePair (b : Nat) (st : Fill) : Fill :=
  { st with c :=
      if hp : b < 9 then (storeP (2 * b) (by omega) st).c
      else if hs : b < 521 then
        (storeS ((b - 9) / 128) (by omega) (2 * ((b - 9) % 128)) (by omega) st).c
      else st.c }

@[simp] theorem storePair_l (b : Nat) (st : Fill) : (storePair b st).l = st.l := rfl
@[simp] theorem storePair_r (b : Nat) (st : Fill) : (storePair b st).r = st.r := rfl
@[simp] theorem storePair_j (b : Nat) (st : Fill) : (storePair b st).j = st.j := rfl

theorem storePair_withCursor (b : Nat) (st : Fill) (j : Nat) :
    storePair b { st with j := j } = { storePair b st with j := j } := rfl

/-- The running values when the first `b` pairs are written. -/
def afterPairs (mix : Fill → Fill) (st : Fill) : Nat → Fill
  | 0 => st
  | b + 1 => storePair b (encipherBlock (mix (afterPairs mix st b)))

section Pairs

variable (mix : Fill → Fill) (st : Fill)

theorem storePair_p {b : Nat} (h : b < 9) : storePair b st = storeP (2 * b) (by omega) st := by
  rw [storePair, dif_pos h]
  rfl

theorem storePair_s {t k : Nat} (ht : t < 4) (hk : k < 128) :
    storePair (9 + 128 * t + k) st = storeS t ht (2 * k) (by omega) st := by
  rw [storePair, dif_neg (by omega), dif_pos (by omega)]
  simp only [show (9 + 128 * t + k - 9) / 128 = t by omega,
    show (9 + 128 * t + k - 9) % 128 = k by omega]
  rfl

theorem fillP_eq : fillP mix st = afterPairs mix st 9 :=
  fold_keeps (P := fun b u => u = afterPairs mix st b) rfl fun b h u hu => by
    rw [afterPairs, storePair_p _ h, hu]

theorem fillBox_eq {t : Nat} (ht : t < 4) :
    fillBox mix t ht (afterPairs mix st (9 + 128 * t)) = afterPairs mix st (9 + 128 * (t + 1)) :=
  fold_keeps (P := fun k u => u = afterPairs mix st (9 + 128 * t + k)) rfl fun k h u hu => by
    rw [← Nat.add_assoc, afterPairs, storePair_s _ ht h, hu]

theorem fillS_eq : fillS mix (afterPairs mix st 9) = afterPairs mix st 521 :=
  fold_keeps (P := fun t u => u = afterPairs mix st (9 + 128 * t)) rfl fun t h u hu => by
    rw [hu, fillBox_eq]

end Pairs

/-- The running values before the data phase. -/
def fillStart (c : CipherState) (key : Vector Byte 64) : Fill :=
  { c := { c with p := xorKey c.p key }, l := 0, r := 0, j := 0 }

theorem keySchedule_eq (mix : Fill → Fill) (c : CipherState) (key : Vector Byte 64) :
    keySchedule mix c key = (afterPairs mix (fillStart c key) 521).c := by
  rw [keySchedule, fillP_eq, fillS_eq, fillStart]

/-! ### Zero data (40_blockmixer_primitives.md R148) -/

theorem streamByte_zeros {n : Nat} {vj : Word × Nat} (h : vj.1 = 0) :
    (streamByte (zeros n) vj).1 = 0 := by
  have byte (j : Nat) : (zeros n)[j]?.getD 0 = 0 := by
    rw [zeros, Vector.getElem?_replicate]
    split <;> rfl
  simp only [streamByte, h, byte]
  rfl

theorem streamWord_zeros (n j : Nat) : (streamWord (zeros n) j).1 = 0 :=
  streamByte_zeros (streamByte_zeros (streamByte_zeros (streamByte_zeros rfl)))

theorem streamedWord_zeros (k : Nat) : streamedWord (zeros 64) k = 0#32 := by
  simp only [streamedWord, zeros, Vector.getElem_replicate]; rfl

theorem mixData_zeros (st : Fill) :
    mixData (zeros 64) st = { st with j := (mixData (zeros 64) st).j } := by
  simp [mixData, streamWord_zeros]

/-- With zero data the cursor alone moves differently. -/
theorem afterPairs_mixData_zeros (st : Fill) (b : Nat) :
    { afterPairs (mixData (zeros 64)) st b with j := st.j } = afterPairs mixNone st b := by
  induction b with
  | zero => rfl
  | succ b ih =>
    rw [afterPairs, afterPairs, ← ih, ← storePair_withCursor, mixData_zeros]
    rfl

theorem expand_zeros (c : CipherState) (key : Vector Byte 64) :
    expand c (zeros 64) key = expand0 c key := by
  rw [expand, expand0, keySchedule_eq, keySchedule_eq, ← afterPairs_mixData_zeros]

/-- Settles O21: the words of zero data leave the block as it is, so only the cursor, which no table
holds, moves differently. -/
theorem expandWithZeroData : Obligations.ExpandWithZeroData :=
  ⟨expand_zeros, fun data key s h => ⟨_, rfl, by
    simp only [exec, execExpand0, h, expand_zeros]⟩⟩

/-! ### The entries of the tables -/

theorem tableEntry_p (c : CipherState) {i : Nat} (h : i < 18) : tableEntry c i = c.p[i] :=
  dif_pos h

theorem tableEntry_s (c : CipherState) {t k : Nat} (ht : t < 4) (hk : k < 256) :
    tableEntry c (18 + 256 * t + k) = c.s[t][k] := by
  have box : (18 + 256 * t + k - 18) / 256 = t := by omega
  have word : (18 + 256 * t + k - 18) % 256 = k := by omega
  simp only [tableEntry, dif_neg (show ¬ 18 + 256 * t + k < 18 by omega), box, word,
    Vector.getElem?_eq_getElem ht, Option.getD_some]

/-- An entry is a word of P or of an S-box. -/
theorem entry_cases {e : Nat} (he : e < 1042) :
    e < 18 ∨ ∃ t k, t < 4 ∧ k < 256 ∧ e = 18 + 256 * t + k := by
  by_cases h : e < 18
  · exact .inl h
  · exact .inr ⟨(e - 18) / 256, (e - 18) % 256, by omega, by omega, by omega⟩

/-- Tables with the same 1042 entries are the same. -/
theorem ext_tableEntry {c c' : CipherState}
    (h : ∀ e, e < 1042 → tableEntry c e = tableEntry c' e) : c = c' := by
  have p : c.p = c'.p := Vector.ext fun i hi => by
    simpa only [tableEntry_p _ hi] using h i (by omega)
  have s : c.s = c'.s := Vector.ext fun t ht => Vector.ext fun k hk => by
    simpa only [tableEntry_s _ ht hk] using h (18 + 256 * t + k) (by omega)
  cases c; cases c'; cases p; cases s; rfl

theorem tableEntry_tablesAfter (n : Nat) (old new : CipherState) {e : Nat} (he : e < 1042) :
    tableEntry (tablesAfter n old new) e =
      if e < n then tableEntry new e else tableEntry old e := by
  obtain h | ⟨t, k, ht, hk, rfl⟩ := entry_cases he
  · simp [tableEntry_p _ h, tablesAfter]
  · simp [tableEntry_s _ ht hk, tablesAfter]

theorem tableEntry_storeP {i : Nat} (h : i + 1 < 18) (st : Fill) {e : Nat} (he : e < 1042) :
    tableEntry (storeP i h st).c e =
      if e = i then st.l else if e = i + 1 then st.r else tableEntry st.c e := by
  obtain hp | ⟨t, k, ht, hk, rfl⟩ := entry_cases he
  · simp only [tableEntry_p _ hp, storeP, Vector.getElem_set]
    grind
  · rw [if_neg (by omega), if_neg (by omega), tableEntry_s _ ht hk, tableEntry_s _ ht hk]
    rfl

theorem tableEntry_storeS {t k : Nat} (ht : t < 4) (hk : k + 1 < 256) (st : Fill) {e : Nat}
    (he : e < 1042) :
    tableEntry (storeS t ht k hk st).c e =
      if e = 18 + 256 * t + k then st.l else if e = 18 + 256 * t + k + 1 then st.r
      else tableEntry st.c e := by
  obtain hp | ⟨t', k', ht', hk', rfl⟩ := entry_cases he
  · rw [if_neg (by omega), if_neg (by omega), tableEntry_p _ hp, tableEntry_p _ hp]
    rfl
  · simp only [tableEntry_s _ ht' hk', storeS, Vector.getElem_set]
    by_cases same : t = t'
    · subst same
      simp only [if_true, Vector.getElem_set]
      grind
    · simp only [if_neg same]
      grind

/-- Pair `b` written, and every other entry left as it is. -/
theorem tableEntry_storePair {b : Nat} (hb : b < 521) (st : Fill) {e : Nat} (he : e < 1042) :
    tableEntry (storePair b st).c e =
      if e = 2 * b then st.l else if e = 2 * b + 1 then st.r else tableEntry st.c e := by
  by_cases hp : b < 9
  · rw [storePair_p _ hp, tableEntry_storeP _ _ he]
  · obtain ⟨t, k, ht, hk, rfl⟩ : ∃ t k, t < 4 ∧ k < 128 ∧ b = 9 + 128 * t + k :=
      ⟨(b - 9) / 128, (b - 9) % 128, by omega, by omega, by omega⟩
    rw [storePair_s _ ht hk, tableEntry_storeS ht _ _ he,
      show 18 + 256 * t + 2 * k = 2 * (9 + 128 * t + k) by omega]

/-! ### The data phase, pair by pair (40_blockmixer_primitives.md R146) -/

theorem mixData_atWord (data : Vector Byte 64) {st : Fill} {b : Nat}
    (h : AtWord (2 * b) st.j) :
    mixData data st =
        { st with l := st.l ^^^ streamedWord data (2 * b)
                  r := st.r ^^^ streamedWord data (2 * b + 1)
                  j := (mixData data st).j } ∧
      AtWord (2 * (b + 1)) (mixData data st).j := by
  obtain ⟨left, next⟩ := streamWord_atWord data h
  obtain ⟨right, last⟩ := streamWord_atWord data next
  exact ⟨by simp only [mixData, left, right], last⟩

section DataPhase

variable (c : CipherState) (data key : Vector Byte 64)

/-- The running values of `Expand` when `b` pairs are written. -/
def expandAfter (b : Nat) : Fill := afterPairs (mixData data) (fillStart c key) b

theorem expandAfter_succ (b : Nat) : expandAfter c data key (b + 1) =
    storePair b (encipherBlock (mixData data (expandAfter c data key b))) := rfl

theorem expandAfter_cursor (b : Nat) : AtWord (2 * b) (expandAfter c data key b).j := by
  induction b with
  | zero => exact atWord_zero
  | succ b ih =>
    rw [expandAfter_succ, storePair_j]
    exact (mixData_atWord data ih).2

/-- Entries not reached yet are those of the key phase. -/
theorem expandAfter_later {b : Nat} (hb : b ≤ 521) {e : Nat} (hbe : 2 * b ≤ e) (he : e < 1042) :
    tableEntry (expandAfter c data key b).c e = tableEntry (fillStart c key).c e := by
  induction b with
  | zero => rfl
  | succ b ih =>
    rw [expandAfter_succ, tableEntry_storePair (by omega) _ he, if_neg (by omega),
      if_neg (by omega)]
    exact ih (by omega) (by omega)

/-- Entries once written stay. -/
theorem expandAfter_earlier {b n : Nat} (hbn : b ≤ n) (hn : n ≤ 521) {e : Nat} (he : e < 2 * b) :
    tableEntry (expandAfter c data key n).c e = tableEntry (expandAfter c data key b).c e := by
  induction n, hbn using Nat.le_induction with
  | base => rfl
  | succ n hbn ih =>
    rw [expandAfter_succ, tableEntry_storePair (by omega) _ (by omega), if_neg (by omega),
      if_neg (by omega)]
    exact ih (by omega)

theorem expand_eq : expand c data key = (expandAfter c data key 521).c := keySchedule_eq _ _ _

/-- The tables in use when `b` pairs are written. -/
theorem expandAfter_tables {b : Nat} (hb : b ≤ 521) : (expandAfter c data key b).c =
    tablesAfter (2 * b) (fillStart c key).c (expand c data key) := by
  refine ext_tableEntry fun e he => ?_
  rw [tableEntry_tablesAfter _ _ _ he, expand_eq]
  split
  · exact (expandAfter_earlier c data key hb le_rfl ‹_›).symm
  · exact expandAfter_later c data key hb (by omega) he

/-- Pair `b` is the block just enciphered. -/
theorem expand_pair {b : Nat} (hb : b < 521) :
    (tableEntry (expand c data key) (2 * b), tableEntry (expand c data key) (2 * b + 1)) =
      ((expandAfter c data key (b + 1)).l, (expandAfter c data key (b + 1)).r) := by
  rw [expand_eq, expandAfter_earlier c data key hb le_rfl (by omega),
    expandAfter_earlier c data key hb le_rfl (by omega), expandAfter_succ,
    tableEntry_storePair hb _ (by omega), tableEntry_storePair hb _ (by omega)]
  simp

theorem expandAfter_block {b : Nat} (hb : b ≤ 521) :
    ((expandAfter c data key b).l, (expandAfter c data key b).r) =
      pairBefore (expand c data key) b := by
  cases b with
  | zero => rfl
  | succ b => exact (expand_pair c data key hb).symm

theorem expand_everyBlock {b : Nat} (hb : b < 521) :
    (tableEntry (expand c data key) (2 * b), tableEntry (expand c data key) (2 * b + 1)) =
      encipher (tablesAfter (2 * b) { c with p := xorKey c.p key } (expand c data key))
        ((pairBefore (expand c data key) b).1 ^^^ streamedWord data (2 * b))
        ((pairBefore (expand c data key) b).2 ^^^ streamedWord data (2 * b + 1)) := by
  obtain ⟨mixed, -⟩ := mixData_atWord data (expandAfter_cursor c data key b)
  rw [expand_pair c data key hb, expandAfter_succ, storePair_l, storePair_r, mixed,
    ← expandAfter_block c data key hb.le]
  exact congrArg (encipher · _ _) (expandAfter_tables c data key hb.le)

end DataPhase

/-- Settles O20: when `b` pairs are written, the entries before them are final and the others still
those of the key phase. EXPAND0 is EXPAND with zero data. -/
theorem keyPhaseAndEveryBlock : Obligations.KeyPhaseAndEveryBlock := by
  refine ⟨fun p key i => xorKey_getElem p key i i.isLt,
    fun c data key b => expand_everyBlock c data key b.isLt, fun c key b => ?_⟩
  have block := expand_everyBlock c (zeros 64) key b.isLt
  simpa only [expand_zeros, streamedWord_zeros, BitVec.xor_zero] using block

end Sys2Proof.Machine
end

section
/-! Proofs of the statements about the cipher-primitive commands (41_cmd_cipher.md R170 to R177). -/

namespace Sys2Proof.Machine

/-! ### ENCRYPT (41_cmd_cipher.md R175) -/

/-- Passes under the same tables add up (R175). -/
theorem encryptPasses_add (c : CipherState) (a b m : Nat) (d : Vector Word 8) :
    encryptPasses c (a + b) m d = encryptPasses c b m (encryptPasses c a m d) := by
  rw [Nat.add_comm]
  exact Function.iterate_add_apply (encryptBlocks c m) b a d

/-- Settles O28: the first command leaves the tables, so the passes of the second go on from its
CDATA, and completing twice is completing once. -/
theorem encryptPassesAdd : Obligations.EncryptPassesAdd := by
  intro a b m s _ _ _ _ _
  refine ⟨_, _, rfl, rfl, ?_⟩
  simp only [exec, execEncrypt, encryptPasses_add, complete]

/-! ### SERIALIZE (41_cmd_cipher.md R176, R177) -/

/-- Bus word `k` of the serialised words is word `k` (R177). -/
theorem getLane_serialize (d : Vector Word 8) (k : Fin 8) :
    getLane (serialize d) k.val (by omega) = d[k] := by
  have byte (b : Nat) (hb : b < 4) :
      (serialize d)[4 * k.val + b] = d[k].extractLsb' (8 * b) 8 := by
    simp [Nat.mul_add_div, Nat.mod_eq_of_lt hb, Nat.div_eq_of_lt hb]
  have first : (serialize d)[4 * k.val] = d[k].extractLsb' 0 8 := byte 0 (by decide)
  rw [getLane, first, byte 1 (by decide), byte 2 (by decide), byte 3 (by decide)]
  exact wordOfBytes_extract d[k]

/-- Settles O29: TMPOUT takes the serialised words, whose lanes the bus shows while idle. -/
theorem serializeWritesLeastSignificantFirst :
    Obligations.SerializeWritesLeastSignificantFirst := by
  refine ⟨onlyWord_of_plain rfl rfl rfl, fun s => ⟨serialize s.cdata, rfl, fun k b => ?_,
    fun k => ?_⟩⟩
  · rw [← getLane_serialize s.cdata k, getLane_byte _ _ _ _ b.isLt]
  · have reg : regOf (BitVec.ofNat 13 (0x0180 + 4 * k.val)) = .tmpout k :=
      regOf_byteOffset_add (.tmpout k) nofun (b := 0) (by decide)
    rw [busRead_eq reg]
    exact (readIdle_of_idle rfl _).trans (getLane_serialize s.cdata k)

/-! ### NOP and INIT (41_cmd_cipher.md R170, R171) -/

/-- Settles O22: its core step is the completion alone. -/
theorem nopCompletes : Obligations.NopCompletes :=
  ⟨onlyWord_of_plain rfl rfl rfl, fun _ => rfl, _, doCommand_of_exec rfl rfl nofun rfl, by decide⟩

/-- Settles O23: the tables are the ROM's, and the bus shows two of their words where it shows P and
S at all. -/
theorem initLoadsTheConstants : Obligations.InitLoadsTheConstants := by
  refine ⟨onlyWord_of_plain rfl rfl rfl, fun s => ⟨initTables, rfl, fun _ => rfl, fun _ _ => rfl⟩,
    fun s hb => ⟨_, doCommand_of_exec hb rfl nofun rfl, ?_, ?_⟩⟩
  · rw [busRead_eq (r := .p 0) rfl]
    exact readBack_of_idle rfl _
  · rw [busRead_eq (r := .s 3 255) rfl]
    exact readBack_of_idle rfl _

/-! ### EXPAND and EXPAND0 (41_cmd_cipher.md R172, R173) -/

/-- The code of a selector (30_encoding.md R113). -/
theorem Sel.code_eq (sel : Sel) : sel.code = if sel = .pass then 0#4 else 1#4 := by
  cases sel <;> rfl

/-- The buffer of a selector (R172). -/
theorem State.buf_eq (s : State) (sel : Sel) :
    s.buf sel = if sel = .pass then s.pass else s.salt := by
  cases sel <;> rfl

/-- Two zero fields next to each other are one zero field. -/
theorem extractLsb'_eq_zero_of_adjacent {w : Word} {start len len' : Nat}
    (low : w.extractLsb' start len = 0) (high : w.extractLsb' (start + len) len' = 0) :
    w.extractLsb' start (len' + len) = 0 := by
  rw [← BitVec.extractLsb'_append_extractLsb'_eq_extractLsb' rfl, low, high]
  exact BitVec.zero_append_zero

/-- A word with a defined OP is BAD_FIELD if RES or, with RES = 0, another field is bad
(30_encoding.md R119). -/
theorem decode_badField_of_fields {w : Word} (hle : ¬ 0x0C < opField w)
    (hbad : resField w = 0 → badWord w) : decode w = .error .badField := by
  obtain ⟨-, bad, -⟩ := decodeOfEveryWord w
  refine bad (BitVec.not_lt.1 hle) ?_
  by_cases hres : resField w = 0
  · exact hbad hres
  · exact .inl hres

/-- Settles O24: a nonzero bit above the selectors is in RES or in the operand fields, and the
buffers are those of the selectors. -/
theorem expandRunsTheKeySchedule : Obligations.ExpandRunsTheKeySchedule := by
  refine ⟨fun data key => ?_, fun w hop hbad => ?_, fun data key s => ?_, rfl⟩
  · rw [← Sel.code_eq, ← Sel.code_eq]
    rfl
  · refine decode_badField_of_fields (by rw [opField, hop]; decide) fun hres =>
      (badWord_expand hop hres).2 ?_
    obtain ha | hb | hupper := hbad
    · exact .inr (.inl ha)
    · exact .inr (.inr hb)
    · exact .inl fun hmn => hupper (extractLsb'_eq_zero_of_adjacent hmn hres)
  · rw [← State.buf_eq, ← State.buf_eq]
    rfl

/-- Settles O25: as EXPAND, with one selector and no data. -/
theorem expand0RunsTheKeySchedule : Obligations.Expand0RunsTheKeySchedule := by
  refine ⟨fun key => ?_, fun w hop hbad => ?_, fun key s => ?_⟩
  · rw [← Sel.code_eq]
    rfl
  · refine decode_badField_of_fields (by rw [opField, hop]; decide) fun hres =>
      (badWord_expand0 hop hres).2 ?_
    obtain ha | hupper := hbad
    · exact .inr ha
    · exact .inl fun hmnb => hupper (extractLsb'_eq_zero_of_adjacent hmnb hres)
  · rw [← State.buf_eq]
    rfl

/-! ### LOADMAGIC (41_cmd_cipher.md R174, 12_constant_rom.md R67) -/

/-- Word `k` of MAGIC, its first byte the most significant (R67). -/
def magicWord (k : Fin 8) : Word :=
  wordOfBytes magic[4 * k.val + 3] magic[4 * k.val + 2] magic[4 * k.val + 1] magic[4 * k.val]

theorem ofFn_magicWord : Vector.ofFn magicWord =
    #v[0x4F787963, 0x68726F6D, 0x61746963, 0x426C6F77,
       0x66697368, 0x53776174, 0x44796E61, 0x6D697465] := by decide

/-- MAGIC streamed from byte `4k` (40_blockmixer_primitives.md R144). -/
theorem streamWord_magic (k : Fin 8) :
    streamWord magic (4 * k.val) = (magicWord k, 4 * k.val + 4) := by
  have byte (b : Nat) (hb : b < 4) : (4 * k.val + b) % 32 = 4 * k.val + b := by omega
  have first : 4 * k.val % 32 = 4 * k.val := byte 0 (by decide)
  rw [streamWord_eq magic _ (by decide) (by omega)]
  simp only [magicWord, byte 1 (by decide), byte 2 (by decide), byte 3 (by decide), first]

/-- After `k` words of LOADMAGIC (40_blockmixer_primitives.md R151): the cursor stands at word `k`
and the words before it are loaded. -/
def MagicLoaded (k : Nat) (dj : Vector Word 8 × Nat) : Prop :=
  dj.2 = 4 * k ∧ ∀ i : Fin 8, i.val < k → dj.1[i] = magicWord i

/-- All of CDATA is replaced (R174). -/
theorem loadMagic_eq (d : Vector Word 8) : loadMagic d = Vector.ofFn magicWord := by
  have loaded := fold_keeps (n := 8) (init := (d, 0)) (P := MagicLoaded)
    (f := fun k h (dj : Vector Word 8 × Nat) =>
      (dj.1.set k (streamWord magic dj.2).1, (streamWord magic dj.2).2))
    ⟨rfl, nofun⟩ fun k hk dj hdj => by
      obtain ⟨cursor, words⟩ := hdj
      rw [cursor, streamWord_magic ⟨k, hk⟩]
      refine ⟨rfl, fun i hi => ?_⟩
      by_cases hik : i.val = k
      · subst hik
        exact Vector.getElem_set_self hk
      · rw [← words i (by omega)]
        exact Vector.getElem_set_ne hk i.isLt (Ne.symm hik)
  obtain ⟨-, words⟩ := loaded
  exact Vector.ext fun i hi => (words ⟨i, hi⟩ hi).trans (Vector.getElem_ofFn hi).symm

/-- Settles O26: the eight words of MAGIC, streamed, whatever CDATA held. -/
theorem loadmagicLoadsTheMagicWords : Obligations.LoadmagicLoadsTheMagicWords := by
  refine ⟨onlyWord_of_plain rfl rfl rfl, fun s => ?_⟩
  rw [← ofFn_magicWord, ← loadMagic_eq s.cdata]
  rfl

end Sys2Proof.Machine
end

section
/-! Proofs of the statements about the ExpensiveHash and KDF-round commands (42_cmd_hash_kdf.md R201
to R211). -/

namespace Sys2Proof.Machine

/-! ### BHASH (42_cmd_hash_kdf.md R201, R202) -/

/-- LOADMAGIC overwrites all of CDATA, and INIT all of P and S, so only PASS and SALT are read
(R202). -/
theorem expensiveHash_eq (s : State) : expensiveHash s =
    { s with tmpout := hashOf s.pass s.salt, cipher := .zero, cdata := zeroWords } := by
  have magic : loadMagic s.cdata = loadMagic zeroWords :=
    (loadMagic_eq s.cdata).trans (loadMagic_eq zeroWords).symm
  rw [expensiveHash, hashOf, magic]

/-- Settles O30: ExpensiveHash, then the completion. -/
theorem bhashHashesAndWipes : Obligations.BhashHashesAndWipes := by
  refine ⟨onlyWord_of_plain rfl rfl rfl, fun s => ?_⟩
  rw [exec, execBhash, expensiveHash_eq, complete]

/-! ### ACCLOAD and ACCXOR (42_cmd_hash_kdf.md R203 to R205) -/

/-- Settles O32: a copy and the completion. -/
theorem accloadCopiesTheRawOutput : Obligations.AccloadCopiesTheRawOutput :=
  ⟨onlyWord_of_plain rfl rfl rfl, fun s => ⟨s.tmpout, rfl, fun _ => rfl⟩⟩

/-- Bytes XORed one by one are words XORed (R205). -/
theorem getLane_xorBytes (a b : Vector Byte 32) {k : Nat} (hk : 4 * k + 3 < 32) :
    getLane (xorBytes a b) k hk = getLane a k hk ^^^ getLane b k hk := by
  unfold getLane wordOfBytes
  simp only [xorBytes_getElem]
  rw [BitVec.xor_append, BitVec.xor_append, BitVec.xor_append]

theorem xorBytes_self (a : Vector Byte 32) : xorBytes a a = zeros 32 :=
  Vector.ext fun i hi => by simp [zeros]

theorem xorBytes_xorBytes (a b : Vector Byte 32) : xorBytes (xorBytes a b) b = a :=
  Vector.ext fun i hi => by simp

/-- A bus read at the offset of a register (20_memory.md R72). -/
theorem busRead_byteOffset (r : Reg) (hr : r ≠ .reserved) (s : State) :
    busRead (BitVec.ofNat 13 r.byteOffset) s = readReg s r :=
  busRead_eq (regOf_byteOffset_add r hr (b := 0) (by decide)) s

/-- Settles O33: XOR byte by byte is XOR word by word, and its own inverse. -/
theorem accxorXorsBytesAndWords : Obligations.AccxorXorsBytesAndWords := by
  refine ⟨onlyWord_of_plain rfl rfl rfl,
    fun s => ⟨_, rfl, fun i => xorBytes_getElem _ _ i.val i.isLt⟩,
    fun s hb => ⟨_, doCommand_of_exec hb rfl nofun rfl, fun k => ?_⟩,
    fun s => ⟨_, _, rfl, rfl, xorBytes_self s.tmpout⟩, fun s => ⟨_, _, rfl, rfl, ?_⟩⟩
  · have out (u : State) (hu : u.busy = false) :
        busRead (BitVec.ofNat 13 (0x01A0 + 4 * k.val)) u = getLane u.out k.val (by omega) :=
      (busRead_byteOffset (.out k) nofun u).trans (readIdle_of_idle hu _)
    have tmpout : busRead (BitVec.ofNat 13 (0x0180 + 4 * k.val)) s =
        getLane s.tmpout k.val (by omega) :=
      (busRead_byteOffset (.tmpout k) nofun s).trans (readIdle_of_idle hb _)
    rw [out _ rfl, out s hb, tmpout]
    exact getLane_xorBytes ..
  · simp only [complete_out, complete_tmpout, xorBytes_xorBytes]

/-! ### WIPE (42_cmd_hash_kdf.md R209) -/

theorem getLane_zeros {n k : Nat} (hk : 4 * k + 3 < n) : getLane (zeros n) k hk = 0 := by
  simp only [getLane, zeros, Vector.getElem_replicate]
  rfl

theorem readIdle_of_eq_zero {w : Word} (hw : w = 0) (s : State) : readIdle w s = 0 := by
  rw [hw]; exact ite_self 0

theorem readBack_of_eq_zero {w : Word} (hw : w = 0) (s : State) : readBack w s = 0 := by
  rw [hw]; exact ite_self 0

/-- Every window and ROUNDCNT read 0 after WIPE, whatever STATE_READBACK is (R209). -/
theorem readReg_wiped (s : State) {r : Reg} (hr : r.isWindow = true ∨ r = .roundcnt) :
    readReg (complete (wipeBuffers s)) r = 0 := by
  cases r with
  | roundcnt => rfl
  | tmpout | out => exact readIdle_of_eq_zero (getLane_zeros _) _
  | pass | salt => exact readBack_of_eq_zero (getLane_zeros _) _
  | cdata k => exact readBack_of_eq_zero (Vector.getElem_replicate k.isLt) _
  | p i => exact readBack_of_eq_zero (Vector.getElem_replicate i.isLt) _
  | s t k =>
    refine readBack_of_eq_zero ?_ _
    simp only [complete_cipher, wipeBuffers_cipher, CipherState.zero, Fin.getElem_fin,
      Vector.getElem_replicate]
  | id | status | cmd | rounds | inten | reserved => simp [Reg.isWindow] at hr

/-- STATUS after a completion without an error (10_state.md R31). -/
theorem statusWord_complete {s : State} (he : s.err = false) (hc : s.errcode = .none) :
    (complete s).statusWord = 0x00000002 := by
  change 0#20 ++ s.errcode.code ++ 0#4 ++ BitVec.ofBool false ++ BitVec.ofBool s.err
    ++ BitVec.ofBool true ++ BitVec.ofBool false = 0x00000002#32
  rw [he, hc]
  decide

/-- Settles O38: every window reads a zeroed buffer, and STATUS shows the completion alone. -/
theorem wipeZeroesEverySensitiveBuffer : Obligations.WipeZeroesEverySensitiveBuffer :=
  ⟨onlyWord_of_plain rfl rfl rfl, fun s => ⟨_, rfl, rfl, fun _ hr => readReg_wiped s hr,
    fun he hc => statusWord_complete (s := wipeBuffers s) he hc⟩, rfl⟩

/-! ### The core's turn (42_cmd_hash_kdf.md R210) -/

theorem step_of_scheduled {s : State} {turn : Turn} {rest : List Turn}
    (hs : s.sched = turn :: rest) : step s = turnStep turn { s with sched := rest } := by
  rw [step, hs]

theorem step_of_unscheduled {s : State} {turn : Turn} (hs : s.sched = [])
    (ht : defaultTurn s = turn) : step s = turnStep turn s := by
  rw [step, hs, ← ht]

/-- Settles O41: the core moves, scheduled or by default, and runs the command in `cur`. -/
theorem stepRunsTheDecodedCommand : Obligations.StepRunsTheDecodedCommand := by
  intro s i hp hd
  exact ⟨fun rest hs => (step_of_scheduled hs).trans (coreStep_of_run hp hd),
    fun hs => (step_of_unscheduled hs (defaultTurn_run hp)).trans (coreStep_of_run hp hd)⟩

/-! ### A round of KDFBLK (42_cmd_hash_kdf.md R208) -/

theorem kdfFirstRound_eq (s : State) : kdfFirstRound s =
    { s with tmpout := hashOf s.pass s.salt, out := hashOf s.pass s.salt, roundcnt := 1
             cipher := .zero, cdata := zeroWords } := by
  rw [kdfFirstRound, expensiveHash_eq]

theorem kdfNextRound_eq (s : State) : kdfNextRound s =
    { s with tmpout := hashOf s.pass s.salt, out := xorBytes s.out (hashOf s.pass s.salt)
             roundcnt := s.roundcnt + 1, cipher := .zero, cdata := zeroWords } := by
  rw [kdfNextRound, expensiveHash_eq]

theorem kdfLoop_of_lt {s : State} (h : s.roundcnt < s.rlat) : kdfLoop s = requestDigest s :=
  if_pos h

theorem kdfLoop_of_not_lt {s : State} (h : ¬ s.roundcnt < s.rlat) : kdfLoop s = complete s :=
  if_neg h

/-- Settles O35: the first or a later round, then the loop test. -/
theorem kdfblkOneRound : Obligations.KdfblkOneRound := by
  refine ⟨onlyWord_of_plain rfl rfl rfl, fun s hr h => ?_, fun s hr h => ?_, fun s hr h => ?_,
    fun s hr h => ?_⟩
  · rw [exec_kdfblk_top hr, kdfLoop_of_lt h, kdfFirstRound_eq, requestDigest]
  · rw [exec_kdfblk_top hr, kdfLoop_of_not_lt h, kdfFirstRound_eq, complete]
  · rw [exec_kdfblk_afterDigest hr, kdfLoop_of_lt h, kdfNextRound_eq, requestDigest]
  · rw [exec_kdfblk_afterDigest hr, kdfLoop_of_not_lt h, kdfNextRound_eq, complete]

/-! ### Turns of the core and the digest agent alone (42_cmd_hash_kdf.md R210) -/

/-- `n` turns of the core in phase RUN and the digest agent in phase WAIT lead from one state to the
other. -/
inductive Works : Nat → State → State → Prop where
  | nil (s : State) : Works 0 s s
  | core {n : Nat} {s t u : State} {i : Instr} (hp : s.phase = .run) (hd : decode s.cur = .ok i)
      (he : exec i s = .next t) (rest : Works n t u) : Works (n + 1) s u
  | digest {n : Nat} {s u : State} (hp : s.phase = .wait) (rest : Works n (digestStep s) u) :
      Works (n + 1) s u

theorem Works.append {m n : Nat} {s t u : State} (h : Works m s t) (h' : Works n t u) :
    Works (m + n) s u := by
  induction h with
  | nil => rwa [Nat.zero_add]
  | core hp hd he _ ih => rw [Nat.succ_add]; exact .core hp hd he (ih h')
  | digest hp _ ih => rw [Nat.succ_add]; exact .digest hp (ih h')

/-- `runToIdle` takes these turns. -/
theorem Works.runToIdle_eq {n : Nat} {s t : State} (h : Works n s t) (fuel : Nat) :
    runToIdle (n + fuel) s = runToIdle fuel t := by
  induction h with
  | nil => rw [Nat.zero_add]
  | core hp hd he _ ih => rw [Nat.succ_add, runToIdle_of_run hp hd he, ih]
  | digest hp _ ih => rw [Nat.succ_add, runToIdle_of_wait hp, ih]

/-- With nothing scheduled and the fair order, the machine's steps are these turns (log 2, 30). -/
theorem Works.run_eq {n : Nat} {s t : State} (h : Works n s t) (hs : s.sched = [])
    (ho : s.order = .fair) : Sys2Proof.core.run n s = .next t := by
  induction h with
  | nil => rfl
  | core hp hd he _ ih =>
    have step := (step_of_unscheduled hs (defaultTurn_run hp)).trans
      ((coreStep_of_run hp hd).trans he)
    obtain ⟨sched, order⟩ := step_order step
    rw [run_of_step step]
    exact ih (sched.trans (congrArg List.tail hs)) (order.trans ho)
  | digest hp _ ih =>
    have step := step_of_unscheduled hs (defaultTurn_wait_fair hp ho)
    obtain ⟨sched, order⟩ := step_order step
    rw [run_of_step step]
    exact ih (sched.trans (congrArg List.tail hs)) (order.trans ho)

/-- An accepted command is the one the core runs (60_exceptions.md R260). -/
theorem decode_accept {i : Instr} (hi : i.WellFormed) (s : State) :
    decode (accept i (encode i) s).cur = .ok i := by
  rw [accept_cur]
  exact decodeOfEncode i hi

/-- `DO` of a command: acceptance, and the turns that lead to idle. -/
theorem doCommand_of_works {i : Instr} {s t : State} {n fuel : Nat} (hb : s.busy = false)
    (hi : i.WellFormed) (hk : i = .kdfblk → s.rounds ≠ 0)
    (h : Works n (accept i (encode i) s) t) (ht : t.phase = .idle) (hn : n ≤ fuel) :
    doCommand fuel i s = .next t := by
  have hw : busWrite 0x0008 (encode i) s = accept i (encode i) s :=
    submit_of_idle hb (decodeOfEncode i hi) hk
  obtain ⟨more, rfl⟩ := Nat.exists_eq_add_of_le hn
  rw [doCommand, hw, h.runToIdle_eq, runToIdle_of_idle ht]

/-! ### The round chain (42_cmd_hash_kdf.md R208) -/

/-- Round `n` of KDFBLK, counting from 0, has run from the top in `s`, and its loop test is to
come. -/
def State.afterRound (s : State) (n : Nat) : State :=
  { s with
    cipher := .zero, cdata := zeroWords, salt := saltAt s.pass s.salt n
    tmpout := rawAt s.pass s.salt n, out := outAt s.pass s.salt n
    roundcnt := BitVec.ofNat 32 (n + 1), phase := .run
    dreq := if n = 0 then s.dreq else none, ret := if n = 0 then s.ret else .afterDigest }

theorem afterRound_zero {s : State} (hp : s.phase = .run) : s.afterRound 0 = kdfFirstRound s := by
  rw [kdfFirstRound_eq]
  cases s
  cases hp
  rfl

/-- The digest agent's answer to the request of round `n` (R206, R208). -/
theorem afterRound_succ (s : State) (n : Nat) :
    kdfNextRound (digestStep (requestDigest (s.afterRound n))) = s.afterRound (n + 1) := by
  rw [digestStep_of_request rfl rfl, kdfNextRound_eq]
  simp only [State.afterRound, requestDigest, Nat.succ_ne_zero, if_false, saltAt, rawAt, outAt,
    BitVec.ofNat_add (n + 1) 1]
  rfl

/-- The loop test of round `n`: is there a round to come? -/
theorem afterRound_roundcnt_lt {s : State} {n : Nat} (hn : n < s.rlat.toNat) :
    (s.afterRound n).roundcnt < (s.afterRound n).rlat ↔ n + 1 < s.rlat.toNat := by
  have bound := s.rlat.isLt
  rw [BitVec.lt_def]
  simp only [State.afterRound, BitVec.toNat_ofNat]
  rw [Nat.mod_eq_of_lt (by omega)]

/-- The turns of KDFBLK up to the loop test of round `n`: a core step for the first round, an answer
and a core step for each later one. -/
theorem works_afterRound {s : State} (hp : s.phase = .run) (hd : decode s.cur = .ok .kdfblk)
    (hr : s.ret = .top) {n : Nat} (hn : n < s.rlat.toNat) :
    Works (2 * n + 1) s (kdfLoop (s.afterRound n)) := by
  induction n with
  | zero =>
    rw [afterRound_zero hp]
    exact .core hp hd (exec_kdfblk_top hr) (.nil _)
  | succ n ih =>
    have before := ih (by omega)
    rw [kdfLoop_of_lt ((afterRound_roundcnt_lt (by omega)).2 hn)] at before
    rw [← afterRound_succ]
    exact before.append (.digest rfl (.core rfl hd (exec_kdfblk_afterDigest rfl) (.nil _)))

/-- ROUNDCNT after the last round (R208). -/
theorem afterRound_last_roundcnt {s : State} (hl : s.rlat ≠ 0) :
    (s.afterRound (s.rlat.toNat - 1)).roundcnt = s.rlat := by
  have pos : 0 < s.rlat.toNat := BitVec.toNat_pos_of_ne_zero hl
  simp only [State.afterRound, Nat.sub_add_cancel pos, BitVec.ofNat_toNat, BitVec.setWidth_eq]

/-- KDFBLK from its top completes in one core step a round and one answer between two. -/
theorem works_kdfblk {s : State} (hp : s.phase = .run) (hd : decode s.cur = .ok .kdfblk)
    (hr : s.ret = .top) (hl : s.rlat ≠ 0) :
    Works (2 * s.rlat.toNat - 1) s (complete (s.afterRound (s.rlat.toNat - 1))) := by
  have pos : 0 < s.rlat.toNat := BitVec.toNat_pos_of_ne_zero hl
  have last : ¬ (s.afterRound (s.rlat.toNat - 1)).roundcnt < s.rlat := by
    rw [afterRound_last_roundcnt hl]; exact BitVec.lt_irrefl _
  rw [← kdfLoop_of_not_lt last, show 2 * s.rlat.toNat - 1 = 2 * (s.rlat.toNat - 1) + 1 by omega]
  exact works_afterRound hp hd hr (by omega)

/-- Settles O36: the turns of KDFBLK, as steps of the machine. -/
theorem kdfblkRunsTheRoundChain : Obligations.KdfblkRunsTheRoundChain := by
  intro s hs ho hp hc hr hq hl
  have hd : decode s.cur = .ok .kdfblk := by rw [hc]; rfl
  refine ⟨(s.afterRound (s.rlat.toNat - 1)).ret,
    ((works_kdfblk hp hd hr hl).run_eq hs ho).trans (congrArg Host.Outcome.next ?_)⟩
  rw [complete, afterRound_last_roundcnt hl]
  simp only [State.afterRound, hq, ite_self]
  rfl

/-! ### The command sequence (42_cmd_hash_kdf.md R211) -/

/-- From every idle state `DO` of the command completes, keeps ROUNDCNT and leaves the buffers as
`f` gives them. -/
def Yields (i : Instr) (f : HashBuffers → HashBuffers) : Prop :=
  ∀ s : State, s.busy = false → ∃ t, doCommand 3 i s = .next t ∧ t.busy = false ∧
    t.roundcnt = s.roundcnt ∧ t.hashBuffers = f s.hashBuffers

/-- A command whose core step completes. -/
theorem Yields.single {i : Instr} {f : HashBuffers → HashBuffers} (hi : i.WellFormed)
    (hk : i ≠ .kdfblk) (he : ∀ s, ∃ u, exec i s = .next (complete u) ∧ u.roundcnt = s.roundcnt ∧
      u.hashBuffers = f s.hashBuffers) : Yields i f := by
  intro s hb
  obtain ⟨u, hu, count, buffers⟩ := he (accept i (encode i) s)
  have works : Works 1 (accept i (encode i) s) (complete u) :=
    .core (accept_phase ..) (decode_accept hi s) hu (.nil _)
  refine ⟨complete u, doCommand_of_works hb hi (absurd · hk) works rfl (by decide), rfl,
    count.trans ?_, buffers.trans ?_⟩
  · rw [accept_roundcnt, if_neg hk]
  · simp only [State.hashBuffers, accept_cipher, accept_cdata, accept_pass, accept_salt,
      accept_tmpout, accept_out]

/-- ExpensiveHash on the buffers (R201, R202). -/
theorem yields_bhash : Yields .bhash fun b =>
    { b with tmpout := hashOf b.pass b.salt, cipher := .zero, cdata := zeroWords } :=
  .single rfl nofun fun s => ⟨_, rfl, rfl, by rw [expensiveHash_eq]; rfl⟩

theorem yields_accload : Yields .accload fun b => { b with out := b.tmpout } :=
  .single rfl nofun fun _ => ⟨_, rfl, rfl, rfl⟩

theorem yields_accxor : Yields .accxor fun b => { b with out := xorBytes b.out b.tmpout } :=
  .single rfl nofun fun _ => ⟨_, rfl, rfl, rfl⟩

/-- The request, the answer and the completion on the buffers (R206). -/
theorem yields_rehash :
    Yields .rehash fun b => { b with salt := Config.digest b.tmpout.toList } := by
  intro s hb
  obtain ⟨-, -, -, -, completes⟩ := rehashReplacesSalt
  obtain ⟨r, h⟩ := completes s hb
  exact ⟨_, h, hb, rfl, rfl⟩

/-- The buffers that rounds 0 to `n` leave (R208). -/
def roundBuffers (pass salt : Vector Byte 64) (n : Nat) : HashBuffers :=
  { cipher := .zero, cdata := zeroWords, pass := pass, salt := saltAt pass salt n
    tmpout := rawAt pass salt n, out := outAt pass salt n }

/-- `u` is idle, with the ROUNDCNT of `s` and the buffers that rounds 0 to `n` leave. -/
structure SequenceDone (s : State) (n : Nat) (u : State) : Prop where
  idle : u.busy = false
  roundcnt : u.roundcnt = s.roundcnt
  buffers : u.hashBuffers = roundBuffers s.pass s.salt n

/-- BHASH and ACCLOAD are the first round of KDFBLK (R208, R211). -/
theorem doAll_firstRound {s : State} (hb : s.busy = false) :
    ∃ u, doAll 3 [.bhash, .accload] s = .next u ∧ SequenceDone s 0 u := by
  obtain ⟨t, bhash, ht, countT, buffersT⟩ := yields_bhash s hb
  obtain ⟨u, accload, hu, countU, buffersU⟩ := yields_accload t ht
  refine ⟨u, ?_, hu, countU.trans countT, ?_⟩
  · rw [doAll_cons bhash, doAll_singleton, accload]
  · rw [buffersU, buffersT]
    rfl

/-- REHASH, BHASH and ACCXOR are a later round, with the digest before it (R208, R211). -/
theorem doAll_nextRound {s u : State} {n : Nat} (h : SequenceDone s n u) :
    ∃ v, doAll 3 [.rehash, .bhash, .accxor] u = .next v ∧ SequenceDone s (n + 1) v := by
  obtain ⟨r, rehash, hr, countR, buffersR⟩ := yields_rehash u h.idle
  obtain ⟨t, bhash, ht, countT, buffersT⟩ := yields_bhash r hr
  obtain ⟨v, accxor, hv, countV, buffersV⟩ := yields_accxor t ht
  refine ⟨v, ?_, hv, countV.trans (countT.trans (countR.trans h.roundcnt)), ?_⟩
  · rw [doAll_cons rehash, doAll_cons bhash, doAll_singleton, accxor]
  · rw [buffersV, buffersT, buffersR, h.buffers]
    rfl

/-- The sequence of R211 for `n + 1` rounds, by induction on the later rounds. -/
theorem doAll_roundCommands {s : State} (hb : s.busy = false) (n : Nat) :
    ∃ u, doAll 3 (roundCommands (n + 1)) s = .next u ∧ SequenceDone s n u := by
  induction n with
  | zero => exact doAll_firstRound hb
  | succ n ih =>
    obtain ⟨u, before, hu⟩ := ih
    obtain ⟨v, round, hv⟩ := doAll_nextRound hu
    have more : roundCommands (n + 1 + 1) = roundCommands (n + 1) ++ [.rehash, .bhash, .accxor] := by
      simp only [roundCommands, Nat.add_sub_cancel, List.replicate_succ', List.flatten_append,
        List.flatten_singleton, List.append_assoc]
    exact ⟨v, by rw [more, doAll_append before, round], hv⟩

/-- `DO KDFBLK` for `ROUNDS` rounds (R208, R210). -/
theorem doCommand_kdfblk {s : State} (hb : s.busy = false) (hr : s.rounds ≠ 0) :
    ∃ t, doCommand (2 * s.rounds.toNat) .kdfblk s = .next t ∧ t.roundcnt = s.rounds ∧
      t.hashBuffers = roundBuffers s.pass s.salt (s.rounds.toNat - 1) := by
  have works :=
    works_kdfblk (s := accept .kdfblk (encode .kdfblk) s) rfl (decode_accept rfl s) rfl hr
  exact ⟨_, doCommand_of_works hb rfl (fun _ => hr) works rfl (Nat.sub_le ..),
    afterRound_last_roundcnt (s := accept .kdfblk (encode .kdfblk) s) hr, rfl⟩

/-- Settles O37: both leave the buffers of the same round. -/
theorem kdfblkEqualsPrimitiveSequence : Obligations.KdfblkEqualsPrimitiveSequence := by
  intro s hb hr
  have pos : 0 < s.rounds.toNat := BitVec.toNat_pos_of_ne_zero hr
  obtain ⟨t, kdfblk, countT, buffersT⟩ := doCommand_kdfblk hb hr
  obtain ⟨u, sequence, hu⟩ := doAll_roundCommands hb (s.rounds.toNat - 1)
  rw [Nat.sub_add_cancel pos] at sequence
  have buffers := buffersT.trans hu.buffers.symm
  simp only [State.hashBuffers, HashBuffers.mk.injEq] at buffers
  obtain ⟨cipher, cdata, pass, salt, tmpout, out⟩ := buffers
  exact ⟨t, u, kdfblk, sequence, pass, salt, tmpout, out, cipher, cdata, countT, hu.roundcnt⟩

end Sys2Proof.Machine
end

section
/-! Proofs of the statements about the host procedure `deriveKey` (47_host_kdf_procedure.md) that
need no run of the core: validation, the ceilings, and output assembly. -/

namespace Sys2Proof.Machine

/-! ### Validation (47_host_kdf_procedure.md R232, R233) -/

/-- Settles O51: the seven conditions of R232, one by one. -/
theorem hostRejectsInvalidCalls : Obligations.HostRejectsInvalidCalls := by
  intro password salt keyLength rounds canAlloc
  have rounds_lt : rounds < 1 ↔ rounds.toNat < 1 := BitVec.lt_def
  simp only [invalidCall, Bool.or_eq_true, decide_eq_true_eq, Bool.not_eq_true', rounds_lt,
    or_assoc, gt_iff_lt]

theorem hostCall_of_invalid {password salt : List Byte} {keyLength : Nat} {rounds : Word}
    {canAlloc : Bool} (hv : invalidCall password salt keyLength rounds canAlloc = true)
    (key : List Byte) (h : HostAgent) :
    hostCall password salt key keyLength rounds canAlloc h =
      { h with
        todo := [], draws := h.draws + keyLength
        call := { HostCall.empty with
          keyLength := keyLength, rounds := rounds
          key := randomFill key keyLength h.draws, result := .failure } } :=
  if_pos hv

/-- Byte `j` of a filled key (R233). -/
theorem randomFill_getElem? (key : List Byte) (keyLength draws : Nat) {j : Nat}
    (hj : j < key.length) : (randomFill key keyLength draws)[j]? =
      if j < keyLength then some (Config.randomByte (draws + j)) else key[j]? := by
  rw [randomFill, List.getElem?_mapIdx, List.getElem?_eq_getElem hj, Option.map_some,
    apply_ite some]

/-- Settles O52: the call is over with the step that makes it, a step of the host alone. -/
theorem rejectedCallFillsTheKey : Obligations.RejectedCallFillsTheKey := by
  intro s h password salt key keyLength rounds canAlloc hn hv
  refine ⟨hostCall password salt key keyLength rounds canAlloc h, turnStep_host_of_nextAct hn, ?_⟩
  rw [hostCall_of_invalid hv]
  exact ⟨rfl, rfl, rfl, rfl, rfl, rfl, rfl, List.length_mapIdx,
    fun j hj => randomFill_getElem? key keyLength h.draws hj⟩

/-! ### The ceilings (47_host_kdf_procedure.md R235) -/

theorem strideOf_le_iff (k a : Nat) : strideOf k ≤ a ↔ k ≤ 32 * a :=
  ceilDiv_le_iff_le_mul (show 0 < 32 by decide)

theorem strideOf_pos {k : Nat} (hk : 1 ≤ k) : 0 < strideOf k := by
  unfold strideOf; omega

theorem amtOf_le_iff {k : Nat} (hk : 1 ≤ k) (a : Nat) : amtOf k ≤ a ↔ k ≤ strideOf k * a :=
  ceilDiv_le_iff_le_mul (strideOf_pos hk)

theorem amtOf_le {k : Nat} (hk : 1 ≤ k) : amtOf k ≤ 32 := by
  rw [amtOf_le_iff hk, Nat.mul_comm, ← strideOf_le_iff]

theorem amtOf_pos {k : Nat} (hk : 1 ≤ k) : 0 < amtOf k := by
  by_contra hn
  have := (amtOf_le_iff hk 0).1 (by omega)
  omega

/-- Settles O53: each is the least number whose multiple reaches `k`. -/
theorem strideAndAmountBounds : Obligations.StrideAndAmountBounds := by
  intro k hk hmax
  have stride_pos := strideOf_pos hk
  have amt_pos := amtOf_pos hk
  refine ⟨⟨(strideOf_le_iff k _).1 le_rfl, ?_⟩, ⟨(amtOf_le_iff hk _).1 le_rfl, ?_⟩, stride_pos,
    (strideOf_le_iff k 32).2 hmax, amt_pos, amtOf_le hk⟩
  · rw [← not_le, ← strideOf_le_iff]; omega
  · rw [← not_le, ← amtOf_le_iff hk]; omega

/-! ### The bytes of one block (47_host_kdf_procedure.md R239) -/

/-- How many bytes block `j`, counting from 0, has in a key of `k` bytes. -/
def blockBytes (k j : Nat) : Nat :=
  k / strideOf k + if j < k % strideOf k then 1 else 0

/-- How many bytes block `j` and those after it have. -/
def bytesFrom (k j : Nat) : Nat :=
  k / strideOf k * (strideOf k - j) + (k % strideOf k - j)

section BlockBytes

variable {k : Nat}

theorem bytesFrom_zero (k : Nat) : bytesFrom k 0 = k := Nat.div_add_mod' k (strideOf k)

theorem bytesFrom_stride (hk : 1 ≤ k) : bytesFrom k (strideOf k) = 0 := by
  have := Nat.mod_lt k (strideOf_pos hk)
  rw [bytesFrom, Nat.sub_self, Nat.mul_zero]
  omega

theorem bytesFrom_eq {j : Nat} (hj : j < strideOf k) :
    bytesFrom k j = blockBytes k j + bytesFrom k (j + 1) := by
  rw [bytesFrom, bytesFrom, blockBytes, show strideOf k - j = strideOf k - (j + 1) + 1 by omega,
    Nat.mul_succ]
  split <;> omega

theorem blockBytes_succ_le (k j : Nat) : blockBytes k (j + 1) ≤ blockBytes k j := by
  unfold blockBytes
  split <;> split <;> omega

/-- Block `j` has the bytes whose places are inside the key. -/
theorem lt_blockBytes_iff {j : Nat} (hj : j < strideOf k) (i : Nat) :
    i < blockBytes k j ↔ i * strideOf k + j < k := by
  have whole := Nat.div_add_mod' k (strideOf k)
  have rem_lt := Nat.mod_lt k (Nat.zero_lt_of_lt hj)
  rw [blockBytes]
  obtain hi | rfl | hi := Nat.lt_trichotomy i (k / strideOf k)
  · have := Nat.mul_le_mul_right (strideOf k) (Nat.succ_le_of_lt hi)
    rw [Nat.succ_mul] at this
    omega
  · split <;> omega
  · have := Nat.mul_le_mul_right (strideOf k) (Nat.succ_le_of_lt hi)
    rw [Nat.succ_mul] at this
    split <;> omega

theorem blockBytes_pos {j : Nat} (hk : 1 ≤ k) (hj : j < strideOf k) : 0 < blockBytes k j := by
  rw [lt_blockBytes_iff hj, Nat.zero_mul, Nat.zero_add]
  exact hj.trans_le ((strideOf_le_iff k k).2 (by omega))

theorem blockBytes_le_amtOf {j : Nat} (hk : 1 ≤ k) (hj : j < strideOf k) :
    blockBytes k j ≤ amtOf k := by
  by_contra hn
  have inside := (lt_blockBytes_iff hj (amtOf k)).1 (not_le.1 hn)
  have outside := (amtOf_le_iff hk _).1 le_rfl
  rw [Nat.mul_comm] at outside
  omega

end BlockBytes

/-! ### The loop over one block (47_host_kdf_procedure.md R239) -/

section PlaceBytes

variable {k stride count N : Nat} {out : List Byte}

/-- One turn of the loop, while its place is inside the key. -/
theorem placeBytes_succ {i : Nat} (hi : i * stride + (count - 1) < k) (todo : Nat)
    (key : List Byte) : placeBytes k stride count out (todo + 1) i key =
      placeBytes k stride count out todo (i + 1)
        (key.set (i * stride + (count - 1)) (out.getD i 0)) :=
  if_neg (Nat.not_le.2 hi)

/-- The loop ends where the place is outside the key. -/
theorem placeBytes_of_outside {i : Nat} (hi : ¬ i * stride + (count - 1) < k) (todo : Nat)
    (key : List Byte) : placeBytes k stride count out todo i key = (key, i) := by
  cases todo with
  | zero => rfl
  | succ todo => exact if_pos (Nat.not_lt.1 hi)

theorem placeBytes_length (todo i : Nat) (key : List Byte) :
    (placeBytes k stride count out todo i key).1.length = key.length := by
  induction todo generalizing i key with
  | zero => rfl
  | succ todo ih =>
    by_cases hi : i * stride + (count - 1) < k
    · rw [placeBytes_succ hi, ih, List.length_set]
    · rw [placeBytes_of_outside hi]

/-- A byte whose place the loop does not come to stays. -/
theorem placeBytes_getElem?_other {d : Nat} (todo i : Nat) (key : List Byte)
    (hd : ∀ i', i ≤ i' → i' * stride + (count - 1) ≠ d) :
    (placeBytes k stride count out todo i key).1[d]? = key[d]? := by
  induction todo generalizing i key with
  | zero => rfl
  | succ todo ih =>
    by_cases hi : i * stride + (count - 1) < k
    · rw [placeBytes_succ hi, ih _ _ fun i' h => hd i' (by omega),
        List.getElem?_set_ne (hd i le_rfl)]
    · rw [placeBytes_of_outside hi]

variable (inside : ∀ i, i < N ↔ i * stride + (count - 1) < k)

include inside

/-- The loop counts the places inside the key, when it is given enough turns. -/
theorem placeBytes_count {todo i : Nat} (hi : i ≤ N) (ht : N ≤ i + todo) (key : List Byte) :
    (placeBytes k stride count out todo i key).2 = N := by
  induction todo generalizing i key with
  | zero => exact Nat.le_antisymm hi ht
  | succ todo ih =>
    obtain hlt | rfl := Nat.lt_or_eq_of_le hi
    · rw [placeBytes_succ ((inside i).1 hlt), ih hlt (by omega)]
    · rw [placeBytes_of_outside (mt (inside i).2 (lt_irrefl i))]

/-- Byte `i'` of the block lands at its place. -/
theorem placeBytes_getElem?_place (hs : 0 < stride) {todo i i' : Nat} (hi : i ≤ i') (hN : i' < N)
    (ht : N ≤ i + todo) (key : List Byte) (hk : key.length = k) :
    (placeBytes k stride count out todo i key).1[i' * stride + (count - 1)]? =
      some (out.getD i' 0) := by
  induction todo generalizing i key with
  | zero => omega
  | succ todo ih =>
    rw [placeBytes_succ ((inside i).1 (by omega))]
    obtain hlt | rfl := Nat.lt_or_eq_of_le hi
    · exact ih hlt (by omega) _ (by rw [List.length_set, hk])
    · rw [placeBytes_getElem?_other _ _ _ fun j hj h => ?_,
        List.getElem?_set_self (by rw [hk]; exact (inside i).1 hN)]
      exact absurd (Nat.eq_of_mul_eq_mul_right hs (Nat.add_right_cancel h)) (by omega)

end PlaceBytes

/-! ### The loop over the blocks (47_host_kdf_procedure.md R239, R240) -/

/-- Different bytes have different places: division with remainder is unique. -/
theorem place_injective {stride i i' a a' : Nat} (ha : a < stride) (ha' : a' < stride)
    (h : i * stride + a = i' * stride + a') : i = i' ∧ a = a' := by
  have offsets : a = a' := by
    rw [← Nat.mul_add_mod_of_lt (a := i) ha, h, Nat.mul_add_mod_of_lt ha']
  exact ⟨Nat.eq_of_mul_eq_mul_right (Nat.zero_lt_of_lt ha) (by omega), offsets⟩

/-- The variables after `j` blocks of a key of `k` bytes: their bytes stand at their places, and
`amt`, which the loop reduces and keeps (R239), still admits all bytes of the next block. -/
structure Assembled (outs : Nat → List Byte) (k j : Nat) (c : HostCall) : Prop where
  stride : c.stride = strideOf k
  keyLength : c.keyLength = k
  count : c.count = j + 1
  remaining : c.remaining = bytesFrom k j
  amt_enough : blockBytes k j ≤ c.amt
  amt_le : c.amt ≤ 32
  length : c.key.length = k
  placed : ∀ i b : Nat, 1 ≤ b → b ≤ j → i * strideOf k + b - 1 < k →
    c.key[i * strideOf k + b - 1]? = (outs b)[i]?

section Assembled

variable {outs : Nat → List Byte} {k j : Nat} {c : HostCall}

/-- Nothing is placed at the start (R235, R236). -/
theorem startCall_assembled (outs : Nat → List Byte) (password salt : List Byte) {key : List Byte}
    (rounds : Word) (hk : 1 ≤ k) (hlen : key.length = k) :
    Assembled outs k 0 (startCall password salt key k rounds) where
  stride := rfl
  keyLength := rfl
  count := rfl
  remaining := (bytesFrom_zero k).symm
  amt_enough := blockBytes_le_amtOf hk (strideOf_pos hk)
  amt_le := amtOf_le hk
  length := hlen
  placed := fun _ _ hb hb0 => absurd (hb.trans hb0) (by decide)

theorem Assembled.with_out (h : Assembled outs k j c) (out : List Byte) :
    Assembled outs k j { c with out := out } :=
  { h with }

/-- There is a block to come exactly when bytes remain. -/
theorem Assembled.remaining_pos_iff (h : Assembled outs k j c) (hk : 1 ≤ k) (hj : j ≤ strideOf k) :
    0 < c.remaining ↔ j < strideOf k := by
  rw [h.remaining]
  obtain hlt | rfl := Nat.lt_or_eq_of_le hj
  · have := blockBytes_pos hk hlt
    have := bytesFrom_eq hlt
    omega
  · rw [bytesFrom_stride hk]
    omega

/-- One more block (R239). -/
theorem Assembled.placeBlock (h : Assembled outs k j c) (hj : j < strideOf k)
    (hlen : ∀ b, (outs b).length = 32) (hout : c.out = outs (j + 1)) :
    Assembled outs k (j + 1) (placeBlock c) := by
  have stride_pos := Nat.zero_lt_of_lt hj
  have next := bytesFrom_eq hj
  have bound : blockBytes k j ≤ min c.amt c.remaining :=
    Nat.le_min.2 ⟨h.amt_enough, by rw [h.remaining]; omega⟩
  have amt_le : min c.amt c.remaining ≤ 32 := (Nat.min_le_left ..).trans h.amt_le
  have inside : ∀ i, i < blockBytes k j ↔ i * strideOf k + (j + 1 - 1) < k := lt_blockBytes_iff hj
  have count := placeBytes_count (out := c.out) inside (Nat.zero_le _)
    (bound.trans (Nat.zero_add _).ge) c.key
  constructor
  case stride => exact h.stride
  case keyLength => exact h.keyLength
  case count => exact congrArg (· + 1) h.count
  case remaining =>
    simp only [Machine.placeBlock, h.keyLength, h.stride, h.count, count]
    rw [h.remaining]
    omega
  case amt_enough => exact (blockBytes_succ_le k j).trans bound
  case amt_le => exact amt_le
  case length => exact (placeBytes_length ..).trans h.length
  case placed =>
    intro i b hb hbj hd
    simp only [Machine.placeBlock, h.keyLength, h.stride, h.count]
    obtain hlt | rfl := Nat.lt_or_eq_of_le hbj
    · rw [placeBytes_getElem?_other, h.placed i b hb (by omega) hd]
      intro i' _ e
      rw [Nat.add_sub_assoc hb] at e
      have := (place_injective (by omega) (by omega) e).2
      omega
    · have hi := (inside i).2 hd
      rw [Nat.add_sub_assoc hb, placeBytes_getElem?_place inside stride_pos (Nat.zero_le _) hi
        (bound.trans (Nat.zero_add _).ge) _ h.length, hout, List.getD_eq_getElem?_getD,
        List.getElem?_eq_getElem (by rw [hlen]; omega), Option.getD_some]

/-- The loop runs to the last block, by induction on the bound on their number. -/
theorem Assembled.assembleAll (h : Assembled outs k j c) (hk : 1 ≤ k) (hj : j ≤ strideOf k)
    (hlen : ∀ b, (outs b).length = 32) {fuel : Nat} (hf : strideOf k ≤ j + fuel) :
    Assembled outs k (strideOf k) (assembleAll outs fuel c) := by
  induction fuel generalizing c j with
  | zero => exact Nat.le_antisymm hj hf ▸ h
  | succ fuel ih =>
    have more := h.remaining_pos_iff hk hj
    rw [Machine.assembleAll]
    split
    · rename_i hpos
      have hlt := more.1 hpos
      exact ih ((h.with_out _).placeBlock hlt hlen (congrArg outs h.count)) hlt (by omega)
    · rename_i hzero
      exact Nat.le_antisymm hj (Nat.not_lt.1 (mt more.2 hzero)) ▸ h

end Assembled

/-- The places are every index of the key, each once (R240). -/
theorem existsUnique_place {k d : Nat} (hd : d < k) :
    ∃! ib : Nat × Nat, ib.1 < 32 ∧ 1 ≤ ib.2 ∧ ib.2 ≤ strideOf k ∧
      d = ib.1 * strideOf k + ib.2 - 1 := by
  have stride_pos := strideOf_pos (Nat.one_le_of_lt hd)
  refine ⟨(d / strideOf k, d % strideOf k + 1), ⟨?_, by omega, Nat.mod_lt _ stride_pos, ?_⟩, ?_⟩
  · rw [Nat.div_lt_iff_lt_mul stride_pos]
    exact hd.trans_le ((strideOf_le_iff k _).1 le_rfl)
  · exact (Nat.div_add_mod' d (strideOf k)).symm
  · rintro ⟨i, b⟩ ⟨-, hb, hbs, hib⟩
    rw [Nat.add_sub_assoc hb, ← Nat.div_add_mod' d (strideOf k)] at hib
    obtain ⟨hi, hj⟩ := place_injective (Nat.mod_lt _ stride_pos) (by omega) hib
    exact Prod.ext hi.symm (by simp only; omega)

/-- Settles O54: the invariant of the loop after the last block, and the uniqueness of division with
remainder. -/
theorem assemblyWritesEveryByteOnce : Obligations.AssemblyWritesEveryByteOnce := by
  intro outs password salt key k rounds hlen hk hmax hkey
  have done := (startCall_assembled outs password salt rounds hk hkey).assembleAll hk
    (Nat.zero_le _) hlen (((strideOf_le_iff k 32).2 hmax).trans (Nat.zero_add 32).ge)
  exact ⟨done.remaining.trans (bytesFrom_stride hk), done.count, done.length, done.placed,
    fun _ => existsUnique_place⟩

end Sys2Proof.Machine
end

section
/-! Proofs of the statements about the host procedure `deriveKey` (47_host_kdf_procedure.md) that
run it on the core: the end of a call, a key block, and the whole call. -/

namespace Sys2Proof.Machine

/-! ### Runs, and states with a quiet core -/

/-- Some run from `s` comes to `t`. -/
def Reaches (s t : State) : Prop := ∃ n, Sys2Proof.core.run n s = .next t

theorem Reaches.of_step {s t : State} (h : step s = .next t) : Reaches s t :=
  ⟨1, run_of_step h 0⟩

theorem Reaches.trans {s t u : State} (h : Reaches s t) (h' : Reaches t u) : Reaches s u := by
  obtain ⟨m, hm⟩ := h
  obtain ⟨n, hn⟩ := h'
  exact ⟨m + n, (run_add hm n).trans hn⟩

/-- The core is idle and nothing is scheduled, so the host moves next (log 2). -/
structure Quiet (s : State) : Prop where
  idle : s.busy = false
  unscheduled : s.sched = []

/-- The state with other actions of the running call to come. -/
def State.withTodo (s : State) (acts : List HostAct) : State :=
  { s with host := { s.host with todo := acts } }

/-- The state with other variables of the running call. -/
def State.withCall (s : State) (c : HostCall) : State :=
  { s with host := { s.host with call := c } }

/-! ### Rules for the parts of the state -/

section Parts

variable (s : State) (sel : Sel) (buf : Vector Byte 64) (acts : List HostAct)

theorem withTodo_buf : (s.withTodo acts).buf sel = s.buf sel := by cases sel <;> rfl

theorem withTodo_withBuf :
    (s.withTodo acts).withBuf sel buf = (s.withBuf sel buf).withTodo acts := by
  cases sel <;> rfl

theorem withBuf_buf : (s.withBuf sel buf).buf sel = buf := by cases sel <;> rfl

theorem withBuf_self : s.withBuf sel (s.buf sel) = s := by cases sel <;> rfl

theorem withBuf_withBuf (buf' : Vector Byte 64) :
    (s.withBuf sel buf).withBuf sel buf' = s.withBuf sel buf' := by
  cases sel <;> rfl

end Parts

theorem Quiet.withBuf {s : State} (q : Quiet s) (sel : Sel) (buf : Vector Byte 64) :
    Quiet (s.withBuf sel buf) := by
  cases sel <;> exact ⟨q.idle, q.unscheduled⟩

/-! ### The host's turns on a quiet core -/

theorem Quiet.reaches_of_nextAct {s : State} {a : HostAct} {h : HostAgent} (q : Quiet s)
    (hn : nextAct s.host = some (a, h)) : Reaches s (hostAct busRead busWrite a h s) :=
  .of_step ((step_of_idle q.idle q.unscheduled).trans (turnStep_host_of_nextAct hn))

section QuietRuns

variable {s : State}

/-- The host takes the next action of its call. -/
theorem Quiet.reaches_act (q : Quiet s) (a : HostAct) (rest : List HostAct) :
    Reaches (s.withTodo (a :: rest))
      (hostAct busRead busWrite a { s.host with todo := rest } (s.withTodo (a :: rest))) :=
  Quiet.reaches_of_nextAct ⟨q.idle, q.unscheduled⟩ rfl

theorem Quiet.reaches_wr (q : Quiet s) (off : BitVec 13) (w : Word) (rest : List HostAct) :
    Reaches (s.withTodo (.wr off w :: rest)) (busWrite off w (s.withTodo rest)) :=
  q.reaches_act _ rest

/-- `WAIT` is over at once (30_encoding.md R123). -/
theorem Quiet.reaches_waitIdle (q : Quiet s) (rest : List HostAct) :
    Reaches (s.withTodo (.waitIdle :: rest)) (s.withTodo rest) := by
  have idle : ¬ (busRead 0x0004 (s.withTodo (.waitIdle :: rest))).getLsbD 0 = true := by
    rw [busRead_status, statusWord_getLsbD]
    exact Bool.eq_false_iff.1 q.idle
  have wait := q.reaches_act .waitIdle rest
  rwa [hostAct, if_neg idle] at wait

/-- The error check goes on while ERR = 0 (47_host_kdf_procedure.md R234). -/
theorem Quiet.reaches_checkErr (q : Quiet s) (he : s.err = false) (rest : List HostAct) :
    Reaches (s.withTodo (.checkErr :: rest)) (s.withTodo rest) := by
  have check := q.reaches_act .checkErr rest
  rwa [hostAct, hostCheckErr_of_no_err (s := s.withTodo (.checkErr :: rest)) _ he] at check

/-- One write of LDBUF (30_encoding.md R123, 20_memory.md R73). -/
theorem Quiet.reaches_load (q : Quiet s) (sel : Sel) (bytes : List Byte) {k : Nat} (hk : k < 16)
    (rest : List HostAct) :
    Reaches (s.withTodo (ldbufWrite sel bytes k :: rest))
      ((s.withBuf sel (setLane (s.buf sel) k (bufferWord bytes k) (by omega))).withTodo rest) := by
  have written := busWrite_buffer (s := s.withTodo rest) q.idle sel ⟨k, hk⟩ (bufferWord bytes k)
  rw [withTodo_withBuf, withTodo_buf] at written
  rw [← written]
  exact q.reaches_wr _ _ rest

/-- The first `n` writes of LDBUF, by induction on their number. -/
theorem Quiet.reaches_loads (q : Quiet s) (sel : Sel) (bytes : Vector Byte 64) {n : Nat}
    (hn : n ≤ 16) (rest : List HostAct) :
    Reaches (s.withTodo ((List.range n).map (ldbufWrite sel bytes.toList) ++ rest))
      ((s.withBuf sel (loadedBytes (s.buf sel) bytes n)).withTodo rest) := by
  induction n generalizing rest with
  | zero =>
    rw [loadedBytes_zero, withBuf_self]
    exact ⟨0, rfl⟩
  | succ n ih =>
    have load := (q.withBuf sel (loadedBytes (s.buf sel) bytes n)).reaches_load sel bytes.toList
      hn rest
    rw [withBuf_buf, withBuf_withBuf, setLane_loadedBytes] at load
    rw [List.range_succ, List.map_append, List.append_assoc]
    exact (ih (by omega) _).trans load

/-- LDBUF loads the buffer (30_encoding.md R123). -/
theorem Quiet.reaches_ldbuf (q : Quiet s) (sel : Sel) (bytes : Vector Byte 64)
    (rest : List HostAct) :
    Reaches (s.withTodo (ldbuf sel bytes.toList ++ rest))
      ((s.withBuf sel bytes).withTodo rest) := by
  have loads := q.reaches_loads sel bytes le_rfl rest
  rwa [loadedBytes_all, ← ldbuf_eq] at loads

/-- `DO` of a command that, once accepted, comes to its end in `t` (30_encoding.md R123). -/
theorem Quiet.reaches_doCmd {t : State} {i : Instr} (q : Quiet s) (hi : i.WellFormed)
    (hk : i = .kdfblk → s.rounds ≠ 0) (rest : List HostAct) (qt : Quiet t)
    (h : Reaches (accept i (encode i) (s.withTodo (.waitIdle :: rest)))
      (t.withTodo (.waitIdle :: rest))) :
    Reaches (s.withTodo (doCmd i ++ rest)) (t.withTodo rest) := by
  have write := q.reaches_wr 0x0008 (encode i) (.waitIdle :: rest)
  have accepted : busWrite 0x0008 (encode i) (s.withTodo (.waitIdle :: rest)) =
      accept i (encode i) (s.withTodo (.waitIdle :: rest)) :=
    submit_of_idle q.idle (decodeOfEncode i hi) hk
  rw [accepted] at write
  exact write.trans (h.trans (qt.reaches_waitIdle rest))

end QuietRuns

/-! ### The end of a call (47_host_kdf_procedure.md R234, R241) -/

/-- The state after `DO WIPE`. -/
def State.afterWipe (s : State) : State :=
  complete (wipeBuffers (accept .wipe (encode .wipe) s))

/-- The state after the last actions of a call. -/
def State.ended (s : State) (success : Bool) : State :=
  { clearStatus s.afterWipe with host := hostReport success { s.host with todo := [] } }

theorem Quiet.reaches_doWipe {s : State} (q : Quiet s) (rest : List HostAct) :
    Reaches (s.withTodo (doCmd .wipe ++ rest)) (s.afterWipe.withTodo rest) := by
  refine q.reaches_doCmd (i := .wipe) (t := s.afterWipe) rfl nofun rest ⟨rfl, q.unscheduled⟩
    (.of_step ?_)
  obtain ⟨-, unscheduled⟩ :=
    stepRunsTheDecodedCommand (accept .wipe (encode .wipe) (s.withTodo _)) .wipe rfl
      (decode_accept rfl _)
  exact unscheduled q.unscheduled

/-- The last actions of a call (R241), with no error to find on the success path. -/
theorem Quiet.reaches_ended {s : State} (q : Quiet s) {success : Bool}
    (he : success = true → s.err = false) :
    Reaches (s.withTodo (endActs success)) (s.ended success) := by
  have quiet : Quiet s.afterWipe := ⟨rfl, q.unscheduled⟩
  have last : Reaches (s.afterWipe.withTodo (clrst ++ [.report success])) (s.ended success) :=
    (quiet.reaches_wr _ _ _).trans
      (Quiet.reaches_act (s := clearStatus s.afterWipe) ⟨rfl, q.unscheduled⟩ (.report success) [])
  rw [endActs, List.append_assoc, List.append_assoc]
  refine (q.reaches_doWipe _).trans ?_
  cases success with
  | true => exact (quiet.reaches_checkErr (he rfl) _).trans last
  | false => exact last

/-- STATUS shows nothing on an idle core after `CLRST` (10_state.md R31, 60_exceptions.md R266). -/
theorem statusWord_clearStatus {s : State} (hb : s.phase = .idle) :
    (clearStatus s).statusWord = 0 := by
  have done : (clearStatus s).done = false := Bool.and_false _
  have err : (clearStatus s).err = false := Bool.and_false _
  have code : (clearStatus s).errcode = .none := rfl
  have phase : (clearStatus s).phase = .idle := hb
  rw [State.statusWord, State.busy, State.dwait, done, err, code, phase]
  decide

/-- What the end of a call from `s` leaves in `t`: a wiped core, the host's buffers overwritten,
STATUS cleared and the report (R234, R241). -/
structure Cleaned (s : State) (success : Bool) (t : State) : Prop where
  todo : t.host.todo = []
  prog : t.host.prog = s.host.prog
  result : t.host.call.result = if success then .success else .failure
  key : t.host.call.key = s.host.call.key
  passDigest : t.host.call.passDigest = List.replicate s.host.call.passDigest.length 0
  countSalt : t.host.call.countSalt = List.replicate s.host.call.countSalt.length 0
  out : t.host.call.out = List.replicate s.host.call.out.length 0
  buffers : t.cipher = .zero ∧ t.cdata = zeroWords ∧ t.pass = zeros 64 ∧ t.salt = zeros 64 ∧
    t.tmpout = zeros 32 ∧ t.out = zeros 32
  rounds : t.rounds = s.rounds
  status : busRead 0x0004 t = 0

theorem ended_cleaned (s : State) (success : Bool) : Cleaned s success (s.ended success) where
  todo := rfl
  prog := rfl
  result := rfl
  key := rfl
  passDigest := rfl
  countSalt := rfl
  out := rfl
  buffers := ⟨rfl, rfl, rfl, rfl, rfl, rfl⟩
  rounds := rfl
  status := statusWord_clearStatus (s := s.afterWipe) rfl

/-- The agent when it has filled the key after an error (R234). -/
def HostAgent.filled (h : HostAgent) : HostAgent :=
  { h with
    draws := h.draws + h.call.keyLength
    call := { h.call with key := randomFill h.call.key h.call.keyLength h.draws } }

/-- The host finds the error (R234). -/
theorem hostCheckErr_of_err {s : State} (he : s.err = true) (h : HostAgent) :
    hostCheckErr (busRead 0x0004 s) h = { h.filled with todo := endActs false } :=
  if_pos (by rw [busRead_status, statusWord_getLsbD, he])

/-- Settles O56: the check fills the key, and the last actions of the call clean up. -/
theorem coreErrorFailsTheCall : Obligations.CoreErrorFailsTheCall := by
  intro s h hb hs he hn
  have check := Quiet.reaches_of_nextAct ⟨hb, hs⟩ hn
  rw [hostAct, hostCheckErr_of_err he] at check
  have finish := Quiet.reaches_ended (s := { s with host := h.filled }) (success := false)
    ⟨hb, hs⟩ nofun
  have cleaned := ended_cleaned { s with host := h.filled } false
  obtain ⟨cipher, cdata, pass, salt, tmpout, out⟩ := cleaned.buffers
  obtain ⟨n, hrun⟩ := check.trans finish
  exact ⟨n, _, hrun, cleaned.todo, cleaned.prog, cleaned.result, cleaned.key, cleaned.passDigest,
    cleaned.countSalt, cleaned.out, cipher, cdata, pass, salt, tmpout, out, cleaned.status⟩

/-! ### One key block (47_host_kdf_procedure.md R237, R238) -/

/-- The state after `DO KDFBLK`. -/
def State.afterKdfblk (s : State) : State :=
  complete ((accept .kdfblk (encode .kdfblk) s).afterRound (s.rounds.toNat - 1))

/-- The state with bytes read into the running output block (R238). -/
def State.appendOut (s : State) (bytes : List Byte) : State :=
  s.withCall { s.host.call with out := s.host.call.out ++ bytes }

theorem appendOut_nil (s : State) : s.appendOut [] = s := by
  rw [State.appendOut, List.append_nil]
  rfl

theorem appendOut_appendOut (s : State) (bytes bytes' : List Byte) :
    (s.appendOut bytes).appendOut bytes' = s.appendOut (bytes ++ bytes') := by
  rw [State.appendOut, State.appendOut, State.appendOut, ← List.append_assoc]
  rfl

/-- The state when the host has built `salt ‖ BE32(count)` (R237). -/
def State.blockStarted (s : State) : State :=
  s.withCall { s.host.call with countSalt := countSaltOf s.host.call, out := [] }

/-- The state when its digest is in SALT (R237). -/
def State.blockLoaded (s : State) : State :=
  s.blockStarted.withBuf .salt (Config.digest (countSaltOf s.host.call))

/-- The state when the host has read the output of a key block (R238). -/
def State.blockRead (s : State) : State :=
  s.blockLoaded.afterKdfblk.appendOut s.blockLoaded.afterKdfblk.out.toList

/-- The state when the bytes of a key block are placed (R239). -/
def State.blockPlaced (s : State) : State :=
  s.blockRead.withCall (placeBlock s.blockRead.host.call)

/-- The variables when the host has read the output of a key block (R208, R237, R238). -/
theorem blockRead_call (s : State) : s.blockRead.host.call =
    { s.host.call with
      countSalt := countSaltOf s.host.call
      out := (outAt s.pass (Config.digest (countSaltOf s.host.call)) (s.rounds.toNat - 1)).toList } :=
  rfl

section Block

variable {s : State}

theorem Quiet.reaches_doKdfblk (q : Quiet s) (ho : s.order = .fair) (hr : s.rounds ≠ 0)
    (rest : List HostAct) :
    Reaches (s.withTodo (doCmd .kdfblk ++ rest)) (s.afterKdfblk.withTodo rest) := by
  refine q.reaches_doCmd rfl (fun _ => hr) rest ⟨rfl, q.unscheduled⟩ ⟨2 * s.rounds.toNat - 1, ?_⟩
  have works := works_kdfblk
    (s := accept .kdfblk (encode .kdfblk) (s.withTodo (.waitIdle :: rest))) rfl
    (decode_accept rfl _) rfl hr
  exact works.run_eq q.unscheduled ho

/-- The bytes of a bus word of a buffer are four bytes of it (20_memory.md R73). -/
theorem laneBytes_getLane {n : Nat} (buf : Vector Byte n) (k : Nat) (h : 4 * k + 3 < n) :
    laneBytes (getLane buf k h) = (buf.toList.drop (4 * k)).take 4 := by
  have byte := getLane_byte buf k h
  rw [laneBytes, byte 1 (by decide), byte 2 (by decide), byte 3 (by decide),
    show (getLane buf k h).extractLsb' 0 8 = _ from byte 0 (by decide)]
  simp (disch := simp; omega) only [List.drop_eq_getElem_cons, List.take_succ_cons, List.take_zero,
    Vector.getElem_toList]
  rfl

/-- The host reads word `k` of OUT (R238). -/
theorem Quiet.reaches_readOut (q : Quiet s) {k : Nat} (hk : k < 8) (rest : List HostAct) :
    Reaches (s.withTodo (.readOut k :: rest))
      ((s.appendOut ((s.out.toList.drop (4 * k)).take 4)).withTodo rest) := by
  have word : busRead (BitVec.ofNat 13 (0x01A0 + 4 * k)) (s.withTodo (.readOut k :: rest)) =
      getLane s.out k (by omega) :=
    (busRead_byteOffset (.out ⟨k, hk⟩) nofun _).trans
        (readIdle_of_idle (s := s.withTodo _) q.idle _)
  have read := q.reaches_act (.readOut k) rest
  rwa [hostAct, word, laneBytes_getLane] at read

/-- The first `n` reads of OUT, by induction on their number (R238). -/
theorem Quiet.reaches_readOuts (q : Quiet s) {n : Nat} (hn : n ≤ 8) (rest : List HostAct) :
    Reaches (s.withTodo ((List.range n).map HostAct.readOut ++ rest))
      ((s.appendOut (s.out.toList.take (4 * n))).withTodo rest) := by
  induction n generalizing rest with
  | zero => exact ⟨0, by rw [Nat.mul_zero, List.take_zero, appendOut_nil]; rfl⟩
  | succ n ih =>
    have read := Quiet.reaches_readOut (s := s.appendOut (s.out.toList.take (4 * n)))
      ⟨q.idle, q.unscheduled⟩ hn rest
    rw [appendOut_appendOut] at read
    rw [List.range_succ, List.map_append, List.append_assoc, Nat.mul_succ, List.take_add]
    exact (ih (by omega) _).trans read

/-- The host hashes `salt ‖ BE32(count)` and loads the digest (R237). -/
theorem Quiet.reaches_blockLoaded (q : Quiet s) (rest : List HostAct) :
    Reaches (s.withTodo (.startBlock :: rest))
      (s.blockLoaded.withTodo (doCmd .kdfblk ++ ([.checkErr]
        ++ ((List.range 8).map HostAct.readOut ++ ([.assembleBlock] ++ rest))))) := by
  have start := q.reaches_act .startBlock rest
  rw [hostAct, hostStartBlock, blockActs, List.append_assoc, List.append_assoc, List.append_assoc,
    List.append_assoc] at start
  exact start.trans
    (Quiet.reaches_ldbuf (s := s.blockStarted) ⟨q.idle, q.unscheduled⟩ .salt _ _)

/-- The host runs KDFBLK and reads OUT (R238). -/
theorem Quiet.reaches_blockRead (q : Quiet s) (ho : s.order = .fair) (he : s.err = false)
    (hr : s.rounds ≠ 0) (rest : List HostAct) :
    Reaches (s.withTodo (.startBlock :: rest)) (s.blockRead.withTodo (.assembleBlock :: rest)) := by
  have hashed := Quiet.reaches_doKdfblk (s := s.blockLoaded) ⟨q.idle, q.unscheduled⟩ ho hr
    ([.checkErr] ++ ((List.range 8).map HostAct.readOut ++ ([.assembleBlock] ++ rest)))
  have quiet : Quiet s.blockLoaded.afterKdfblk := ⟨rfl, q.unscheduled⟩
  have read := quiet.reaches_readOuts le_rfl ([.assembleBlock] ++ rest)
  rw [List.take_of_length_le (by simp)] at read
  exact (q.reaches_blockLoaded rest).trans
    (hashed.trans ((quiet.reaches_checkErr he _).trans read))

/-- The host places the bytes and goes on with the next block or ends the call (R239, R242). -/
theorem Quiet.reaches_blockPlaced (q : Quiet s) (ho : s.order = .fair) (he : s.err = false)
    (hr : s.rounds ≠ 0) :
    Reaches (s.withTodo [.startBlock]) (s.blockPlaced.withTodo
      (if 0 < s.blockPlaced.host.call.remaining then [.startBlock] else endActs true)) := by
  have assemble := Quiet.reaches_act (s := s.blockRead) ⟨rfl, q.unscheduled⟩ .assembleBlock []
  rw [hostAct, hostAssemble, List.append_nil] at assemble
  exact (q.reaches_blockRead ho he hr []).trans assemble

end Block

/-! ### The whole call (47_host_kdf_procedure.md R235 to R242) -/

/-- A call is running, with its password loaded and no error, and its key blocks agree with the
reference: the variables are `c`, up to `salt ‖ BE32(count)`, which the reference does not keep. -/
structure InCall (password salt : List Byte) (rounds : Word) (c : HostCall) (s : State) : Prop where
  quiet : Quiet s
  fair : s.order = .fair
  no_err : s.err = false
  rounds_eq : s.rounds = rounds
  pass_eq : s.pass = Config.digest password
  salt_eq : c.salt = salt
  passDigest_eq : c.passDigest = (Config.digest password).toList
  call_eq : s.host.call = { c with countSalt := s.host.call.countSalt }

section InCall

variable {password salt : List Byte} {rounds : Word} {c : HostCall} {s : State}

theorem InCall.remaining_eq (h : InCall password salt rounds c s) :
    s.host.call.remaining = c.remaining := by
  rw [h.call_eq]

/-- The host reads the bytes of the reference's block (R236 to R238). -/
theorem InCall.blockRead_call (h : InCall password salt rounds c s) : s.blockRead.host.call =
    { c with
      countSalt := salt ++ be32 (BitVec.ofNat 32 c.count)
      out := blockOut password salt rounds c.count } := by
  have countSalt : countSaltOf s.host.call = salt ++ be32 (BitVec.ofNat 32 c.count) := by
    rw [h.call_eq, countSaltOf, h.salt_eq]
  rw [Machine.blockRead_call, countSalt, h.pass_eq, h.rounds_eq, ← blockOut, h.call_eq]

/-- Placing the bytes is the reference's step (R239). -/
theorem InCall.blockPlaced (h : InCall password salt rounds c s) :
    InCall password salt rounds (placeBlock { c with out := blockOut password salt rounds c.count })
      s.blockPlaced where
  quiet := ⟨rfl, h.quiet.unscheduled⟩
  fair := h.fair
  no_err := h.no_err
  rounds_eq := h.rounds_eq
  pass_eq := h.pass_eq
  salt_eq := h.salt_eq
  passDigest_eq := h.passDigest_eq
  call_eq := by
    rw [State.blockPlaced, State.withCall, h.blockRead_call]
    rfl

/-- The host's buffers after a key block (R237, R238). -/
theorem InCall.blockPlaced_lengths (h : InCall password salt rounds c s) :
    s.blockPlaced.host.call.countSalt.length = salt.length + 4 ∧
      s.blockPlaced.host.call.out.length = 32 := by
  rw [State.blockPlaced, State.withCall, h.blockRead_call]
  exact ⟨List.length_append, Vector.length_toList⟩

/-- The loop of the reference is over when nothing remains (R239). -/
theorem assembleAll_of_done {outs : Nat → List Byte} (h : ¬ 0 < c.remaining) (fuel : Nat) :
    assembleAll outs fuel c = c := by
  cases fuel with
  | zero => rfl
  | succ fuel => exact if_neg h

/-- All key blocks, by induction on the bound on their number in the reference: the call comes to
its end with the variables of the reference and the last block in the host's buffers (R239, R242). -/
theorem InCall.reaches_end (hr : rounds ≠ 0) {fuel : Nat} (h : InCall password salt rounds c s)
    (hpos : 0 < c.remaining)
    (hend : (assembleAll (blockOut password salt rounds) fuel c).remaining = 0) :
    ∃ t, Reaches (s.withTodo [.startBlock]) (t.withTodo (endActs true)) ∧
      InCall password salt rounds (assembleAll (blockOut password salt rounds) fuel c) t ∧
      t.host.prog = s.host.prog ∧ t.host.call.countSalt.length = salt.length + 4 ∧
      t.host.call.out.length = 32 := by
  induction fuel generalizing c s with
  | zero => exact absurd hend hpos.ne'
  | succ fuel ih =>
    have block := h.quiet.reaches_blockPlaced h.fair h.no_err (h.rounds_eq ▸ hr)
    have placed := h.blockPlaced
    rw [assembleAll, if_pos hpos] at hend ⊢
    rw [placed.remaining_eq] at block
    split at block
    · rename_i more
      obtain ⟨t, run, done, prog, lengths⟩ := ih placed more hend
      exact ⟨t, block.trans run, done, prog, lengths⟩
    · rename_i finished
      rw [assembleAll_of_done finished]
      exact ⟨s.blockPlaced, block, placed, rfl, h.blockPlaced_lengths⟩

end InCall

theorem hostCall_of_valid {password salt : List Byte} {keyLength : Nat} {rounds : Word}
    {canAlloc : Bool} (hv : invalidCall password salt keyLength rounds canAlloc = false)
    (key : List Byte) (h : HostAgent) :
    hostCall password salt key keyLength rounds canAlloc h =
      { h with
        call := startCall password salt key keyLength rounds
        todo := ldbuf .pass (Config.digest password).toList ++ [.wr 0x000C rounds, .startBlock] } :=
  if_neg (Bool.eq_false_iff.1 hv)

/-- The state when the host's program has come to `rest` and a call has the variables `c`. -/
def State.begun (s : State) (rest : List HostAct) (c : HostCall) : State :=
  { s with host := { s.host with prog := rest, call := c } }

/-- The state when the password's digest and ROUNDS are loaded too (R236). -/
def State.called (s : State) (rest : List HostAct) (c : HostCall) (pass : Vector Byte 64) : State :=
  { (s.begun rest c).withBuf .pass pass with rounds := c.rounds }

/-- The host loads the password's digest and ROUNDS (R236). -/
theorem Quiet.reaches_called {s : State} (q : Quiet s) {password salt key : List Byte}
    {keyLength : Nat} {rounds : Word} {rest : List HostAct} (ht : s.host.todo = [])
    (hp : s.host.prog = .call password salt key keyLength rounds true :: rest)
    (hv : invalidCall password salt keyLength rounds true = false) :
    Reaches s ((s.called rest (startCall password salt key keyLength rounds)
      (Config.digest password)).withTodo [.startBlock]) := by
  have call := q.reaches_of_nextAct (nextAct_of_prog ht hp)
  rw [hostAct, hostCall_of_valid hv] at call
  have load := Quiet.reaches_ldbuf
    (s := s.begun rest (startCall password salt key keyLength rounds)) ⟨q.idle, q.unscheduled⟩ .pass
    (Config.digest password) [.wr 0x000C rounds, .startBlock]
  have write := Quiet.reaches_wr
    (s := (s.begun rest (startCall password salt key keyLength rounds)).withBuf .pass
      (Config.digest password)) ⟨q.idle, q.unscheduled⟩ 0x000C rounds [.startBlock]
  rw [busWrite_eq (r := .rounds) rfl, writeReg_of_idle (r := .rounds) rounds (by exact q.idle) rfl]
    at write
  exact call.trans (load.trans write)

/-- Settles O57: after validation the key blocks run as in the reference, whose loop ends with
nothing remaining (O54), and the last actions of the call clean up. -/
theorem deriveKeyComputesTheKey : Obligations.DeriveKeyComputesTheKey := by
  intro s password salt key keyLength rounds rest hb hs ho he ht hp hv hkey
  have valid := mt (hostRejectsInvalidCalls password salt keyLength rounds true).2
    (Bool.eq_false_iff.1 hv)
  simp only [not_or] at valid
  obtain ⟨hrounds, -, -, hk, hmax, -, -⟩ := valid
  have quiet : Quiet s := ⟨hb, hs⟩
  obtain ⟨remaining, -⟩ := assemblyWritesEveryByteOnce (blockOut password salt rounds) password salt
    key keyLength rounds (fun _ => Vector.length_toList) (by omega) (by omega) hkey
  have called : InCall password salt rounds (startCall password salt key keyLength rounds)
      (s.called rest (startCall password salt key keyLength rounds) (Config.digest password)) :=
    ⟨⟨hb, hs⟩, ho, he, rfl, rfl, rfl, rfl, rfl⟩
  have rounds_ne : rounds ≠ 0 := by rintro rfl; exact hrounds (by decide)
  obtain ⟨t, blocks, finished, prog, countSalt, out⟩ :=
    called.reaches_end rounds_ne (Nat.pos_of_ne_zero hk) remaining
  have cleaned := ended_cleaned t true
  have key_eq : t.host.call.key = deriveKeyRef password salt key keyLength rounds := by
    rw [finished.call_eq]; rfl
  have passDigest : t.host.call.passDigest.length = 64 := by
    rw [finished.call_eq, finished.passDigest_eq, Vector.length_toList]
  obtain ⟨cipher, cdata, pass, salt, tmpout, coreOut⟩ := cleaned.buffers
  obtain ⟨n, hrun⟩ := (quiet.reaches_called ht hp hv).trans
    (blocks.trans (finished.quiet.reaches_ended fun _ => finished.no_err))
  exact ⟨n, _, hrun, cleaned.todo, cleaned.prog.trans prog, cleaned.result,
    cleaned.key.trans key_eq, countSalt ▸ cleaned.countSalt, out ▸ cleaned.out,
    passDigest ▸ cleaned.passDigest, cipher, cdata, pass, salt, tmpout, coreOut,
    cleaned.rounds.trans finished.rounds_eq, cleaned.status⟩

end Sys2Proof.Machine
end

section
/-! Proofs of the statements about errors and completion (60_exceptions.md R260 to R270): runs that
never stop, the write of any word to CMD, the error codes in STATUS, and irq. -/

namespace Sys2Proof.Machine

/-! ### No run stops (60_exceptions.md R265, R267) -/

/-- Settles O45, by induction on the number of steps: the invariant gives the first step, which
keeps it. -/
theorem invariantRunsNeverStop : Obligations.InvariantRunsNeverStop := by
  intro s hs n
  induction n generalizing s with
  | zero => exact ⟨s, rfl⟩
  | succ n ih =>
    obtain ⟨t, h⟩ := hs.step_next
    rw [run_of_step h]
    exact ih t (step_keeps_inv hs h)

/-- Settles O39: the two commands that resume go on from either resume point, the others
complete. -/
theorem runningCommandsNeverFail : Obligations.RunningCommandsNeverFail := exec_next

/-! ### The write of a word to CMD (60_exceptions.md R260 to R263) -/

section Submit

variable {s : State} {w : Word}

theorem submit_of_busy (hb : s.busy = true) : submit w s = s.withError .busy :=
  if_pos hb

theorem submit_of_decode_error {e : DecodeError} (hb : s.busy = false) (hd : decode w = .error e) :
    submit w s = s.withError (errCodeOf e) := by
  rw [submit, if_neg (by simp [hb]), hd]
  rfl

theorem submit_kdfblk_of_rounds_zero (hb : s.busy = false) (hd : decode w = .ok .kdfblk)
    (hr : s.rounds = 0) : submit w s = s.withError .badRounds := by
  rw [submit, if_neg (by simp [hb]), hd]
  exact if_pos ⟨rfl, hr⟩

theorem accept_kdfblk (w : Word) (s : State) : accept .kdfblk w s =
    { s with cur := w, done := false, phase := .run, rlat := s.rounds, roundcnt := 0
             ret := .top } := rfl

theorem accept_of_ne_kdfblk {i : Instr} (hi : i ≠ .kdfblk) (w : Word) (s : State) :
    accept i w s = { s with cur := w, done := false, phase := .run, ret := .top } :=
  if_neg hi

/-- KDFBLK has one word (30_encoding.md R118). -/
theorem decode_eq_kdfblk_iff : decode w = .ok .kdfblk ↔ w = 0x0000000B := by
  refine ⟨fun h => ?_, fun h => by rw [h]; rfl⟩
  obtain ⟨-, henc⟩ := encodeOfDecode w _ h
  exact henc.symm

end Submit

/-- Settles O7: the word is rejected while BUSY, and else by what it decodes to, KDFBLK also by
ROUNDS. -/
theorem submitEveryWord : Obligations.SubmitEveryWord := by
  intro s off w hoff
  rw [show busWrite off w s = submit w s from busWrite_eq hoff w s]
  obtain ⟨illegal, bad, legal⟩ := decodeOfEveryWord w
  refine ⟨submit_of_busy, fun hb hop => submit_of_decode_error hb (illegal hop),
    fun hb hop hbad => submit_of_decode_error hb (bad hop hbad),
    fun hb hw hr => submit_kdfblk_of_rounds_zero hb (decode_eq_kdfblk_iff.2 hw) hr,
    fun hb hw hr => ⟨.top, ?_⟩, fun hb hop hbad hw => ⟨.top, ?_⟩⟩
  · rw [submit_of_idle hb (decode_eq_kdfblk_iff.2 hw) fun _ => hr, accept_kdfblk]
  · have hd := legal hop hbad
    have hk : commandOfWord w ≠ .kdfblk := fun h => hw (decode_eq_kdfblk_iff.1 (h ▸ hd))
    rw [submit_of_idle hb hd (absurd · hk), accept_of_ne_kdfblk hk]

/-! ### The error codes in STATUS (60_exceptions.md R261, R262) -/

section ErrorCodes

variable {s : State} {r : Reg}

theorem busRead_status_errcode (s : State) :
    (busRead 0x0004 s).extractLsb' 8 4 = s.errcode.code :=
  statusWord_errcode s

theorem busRead_status_err (s : State) : (busRead 0x0004 s).getLsbD 2 = s.err :=
  statusWord_getLsbD s 2

/-- The first error shows its code and ERR = 1 (R262). -/
theorem busRead_status_withError (he : s.err = false) (code : ErrCode) :
    (busRead 0x0004 (s.withError code)).extractLsb' 8 4 = code.code ∧
      (busRead 0x0004 (s.withError code)).getLsbD 2 = true := by
  rw [busRead_status_errcode, busRead_status_err]
  exact ⟨congrArg ErrCode.code (if_neg (by simp [he])), rfl⟩

/-- Codes 5 to F are never written (R261). -/
theorem ErrCode.code_le (code : ErrCode) : code.code ≤ 4 := by
  cases code <;> decide

/-- A recorded error stands in `t` as in `s`. -/
def KeepsError (s t : State) : Prop := t.err = true ∧ t.errcode = s.errcode

theorem raiseError_keepsError (he : s.err = true) (code : ErrCode) :
    KeepsError s (raiseError code s) :=
  ⟨rfl, if_pos he⟩

theorem submit_keepsError (he : s.err = true) (w : Word) : KeepsError s (submit w s) := by
  obtain ⟨code, -, e⟩ | ⟨i, -, -, -, e⟩ := submit_cases w s <;> rw [e]
  · exact raiseError_keepsError he code
  · exact ⟨(accept_err s i w).trans he, accept_errcode s i w⟩

theorem writeIdle_keepsError {t : State} (he : s.err = true) (ht : KeepsError s t) :
    KeepsError s (writeIdle t s) := by
  cases hb : s.busy with
  | true => rw [writeIdle_of_busy hb]; exact raiseError_keepsError he .busy
  | false => rw [writeIdle_of_idle hb]; exact ht

/-- Only a write to STATUS clears or changes a recorded error (R262, R266). -/
theorem writeReg_keepsError (he : s.err = true) (hr : r ≠ .status) (w : Word) :
    KeepsError s (writeReg w s r) := by
  cases r with
  | status => exact absurd rfl hr
  | cmd => exact submit_keepsError he w
  | rounds | pass | salt | cdata | p | s => exact writeIdle_keepsError he ⟨he, rfl⟩
  | id | roundcnt | inten | tmpout | out | reserved => exact ⟨he, rfl⟩

end ErrorCodes

/-- Settles O8: each rejection is a recorded error (O7, O10), whose code and flag STATUS shows. -/
theorem errorCodesInStatus : Obligations.ErrorCodesInStatus := by
  intro s off w
  have submitted := submitEveryWord s off w
  refine ⟨fun he hb hoff => ?_, fun he hb hoff hop => ?_, fun he hb hoff hop hbad => ?_,
    fun he hb hoff hw hr => ?_, fun he hoff => ?_, ?_⟩
  · have rejected : busWrite off w s = s.withError .busy := by
      obtain hoff | hdata := hoff
      · exact (submitted hoff).1 hb
      · exact writeReg_of_busy w hb hdata
    rw [rejected]
    exact busRead_status_withError he .busy
  · obtain ⟨-, illegal, -⟩ := submitted hoff
    rw [illegal hb hop]
    exact busRead_status_withError he .illegalOp
  · obtain ⟨-, -, bad, -⟩ := submitted hoff
    rw [bad hb hop hbad]
    exact busRead_status_withError he .badField
  · obtain ⟨-, -, -, badRounds, -⟩ := submitted hoff
    rw [badRounds hb hw hr]
    exact busRead_status_withError he .badRounds
  · obtain ⟨err, errcode⟩ : KeepsError s (busWrite off w s) := writeReg_keepsError he hoff w
    rw [busRead_status_errcode, busRead_status_err, busRead_status_errcode, errcode]
    exact ⟨rfl, err⟩
  · rw [busRead_status_errcode]
    exact ErrCode.code_le _

/-! ### The probe state (60_exceptions.md R260, 42_cmd_hash_kdf.md R210) -/

theorem tableWord_toNat (w : Word) : tableWord 32 w.toNat = w := by
  rw [tableWord, Nat.mod_eq_of_lt w.isLt, BitVec.ofNat_toNat, BitVec.setWidth_eq]

/-- The probe state of a word that decodes (log 3, 4). -/
theorem launch_of_decode {w : Word} {i : Instr} (hd : decode w = .ok i) (s : State) :
    launch w s =
      { s with
        cur := w, done := false, phase := .run, ret := .top, dreq := none
        rounds := if i = .kdfblk ∧ s.rounds = 0 then 1 else s.rounds
        rlat := if i = .kdfblk then (if s.rounds = 0 then 1 else s.rounds) else s.rlat
        roundcnt := if i = .kdfblk then 0 else s.roundcnt
        sched := .core :: s.sched } := by
  rw [launch, hd]
  by_cases hi : i = .kdfblk <;> simp [hi]

/-- Settles O42: the core's turn stands first in the schedule and runs the word, which decodes
to its command (O5). -/
theorem fetchWordRunsTheCommand : Obligations.FetchWordRunsTheCommand := by
  intro s i hi
  have hd := decodeOfEncode i hi
  rw [State.withFetchWord, tableWord_toNat, launch_of_decode hd, step_of_scheduled rfl, turnStep,
    coreStep_of_run rfl hd]

/-! ### The interrupt sources (60_exceptions.md R260, R270) -/

/-- Masking both sources lowers irq (R270). -/
theorem irq_writeInten_zero (s : State) : (writeInten 0 s).irq = false := by
  simp [State.irq]

/-- Acknowledging both sources lowers irq (R266, R270). -/
theorem irq_clearStatus (s : State) : (clearStatus s).irq = false := by
  simp [State.irq, clearStatus]

/-- Acceptance clears DONE, so the error source alone is left (R260). -/
theorem irq_accept (i : Instr) (w : Word) (s : State) :
    (accept i w s).irq = (s.err && s.errie) := by
  simp [State.irq]

/-- Settles O16: a write to INTEN, a write to STATUS and an acceptance, each by what it leaves of
irq. -/
theorem interruptSources : Obligations.InterruptSources := by
  intro s
  refine ⟨⟨irq_writeInten_zero s, rfl⟩, irq_clearStatus s, fun w i hb hd hk => ?_⟩
  have accepted : busWrite 0x0008 w s = accept i w s := submit_of_idle hb hd hk
  rw [accepted, irq_accept]

end Sys2Proof.Machine
end

section
/-! Proof of the statement about reset (70_reset_and_hazards.md R300). -/

namespace Sys2Proof.Machine

section Reset

variable {s : State} {a : HostAct} {h : HostAgent}

/-- Whatever the host does meanwhile, reset leaves the core at its values of R40. -/
theorem coreIsReset_resetCore (s : State) (h : HostAgent) :
    coreIsReset { resetCore s with host := h } := rfl

/-- A host's turn during reset is its next action on a dead bus (R300). -/
theorem turnStep_resetHost_of_nextAct (hn : nextAct s.host = some (a, h)) :
    turnStep .resetHost s = .next (hostAct (fun _ _ => 0) (fun _ _ s => s) a h (resetCore s)) := by
  simp only [turnStep, resetHostStep, resetCore_host, hn]

/-- An action that on a dead bus only turns the host into `h'` leaves the core reset (R300). -/
theorem resetHost_leaves_host (h' : HostAgent) (hn : nextAct s.host = some (a, h))
    (act : hostAct (fun _ _ => 0) (fun _ _ s => s) a h (resetCore s) =
      { resetCore s with host := h' }) :
    ∃ t, turnStep .resetHost s = .next t ∧ coreIsReset t ∧ t.host = h' :=
  ⟨_, (turnStep_resetHost_of_nextAct hn).trans (congrArg _ act), coreIsReset_resetCore s h', rfl⟩

/-- A STATUS value of 0 shows BUSY = 0, so WAIT ends (log 25). -/
theorem not_busy_zero : ¬ (0 : Word).getLsbD 0 = true := by decide

/-- A STATUS value of 0 shows no error, so the host goes on (47_host_kdf_procedure.md R234). -/
theorem hostCheckErr_zero (h : HostAgent) : hostCheckErr 0 h = h := rfl

theorem laneBytes_zero : laneBytes 0 = [0, 0, 0, 0] := by decide

end Reset

/-- Settles O2: a reset core has no request for a digest response to answer, and each host action
is evaluated on the dead bus. -/
theorem resetFromAnyState : Obligations.ResetFromAnyState := by
  intro s
  have unasked : (resetCore s).dreq = none := rfl
  refine ⟨⟨resetCore s, rfl, coreIsReset_resetCore s s.host, rfl,
      unsolicitedDigestIgnored _ (.inr unasked)⟩,
    fun off h hn => resetHost_leaves_host _ hn rfl,
    fun off w h hn => resetHost_leaves_host _ hn rfl, fun h hn => ?_, fun k h hn => ?_⟩
  · obtain hn | hn := hn
    · exact resetHost_leaves_host h hn (by rw [hostAct, if_neg not_busy_zero])
    · exact resetHost_leaves_host h hn (by rw [hostAct, hostCheckErr_zero])
  · exact resetHost_leaves_host _ hn (by rw [hostAct, laneBytes_zero])

end Sys2Proof.Machine
end
